-- ==== Sys2Proof/Word.lean ====
section
/-! DEFINITION. The widths of the FP216's data: bytes, 16-bit words in two byte lanes (00_scope.md,
Conventions), and the 9-bit pattern index that is added modulo 512 (00_scope.md, Frame base). -/

namespace Sys2Proof

/-- One byte lane. -/
abbrev Byte := BitVec 8

/-- A word: two bytes at an even address, low lane at the even one (00_scope.md, Addresses and data). -/
abbrev Word := BitVec 16

/-- A pattern index, a frame base or a pattern offset, 0 to 511; sums are modulo 512 (R8). -/
abbrev PatternIndex := BitVec 9

end Sys2Proof
end

