-- ==== Sys2Proof/Config.lean ====
section
/-! DEFINITION. The sizes and window offsets the manual fixes, the value of memory nothing has
written, and the one value the manual leaves open. -/

namespace Sys2Proof.Config

/-- Bytes of the host's address space: 20 address lines (00_scope.md, Addresses and data). -/
def hostSpace : Nat := 1048576

/-- Bytes of the panel window (R144). -/
def windowSize : Nat := 8192

/-- Host bytes from one strap position to the next (R144). -/
def strapStep : Nat := 65536

/-- Lines of the frame cache (R22). -/
def lineCount : Nat := 64

/-- Keys the key scanner serves (R57). -/
def keyCount : Nat := 128

/-- Scan records the scan table region holds (R97). -/
def maxRecords : Nat := 24

/-- Configuration cells a START latch reads (R97). -/
def configCells : Nat := 12

/-- Window offset of the first configuration cell (R97). -/
def configBase : Nat := 0x020

/-- Window offset of scan record 0 (R97). -/
def tableBase : Nat := 0x100

/-- Window offset of ring position 0 (R81). -/
def ringBase : Nat := 0x200

/-- Window offset of pattern record 0 (R34). -/
def patternBase : Nat := 0x400

/-- What a byte of memory that nothing has written reads as. DESIGN CHOICE (notes/assumptions/2.md),
unsafe: the manual gives the RAM no contents after power-on. -/
def unwritten : Byte := 0

/-- Whether a part write that a line reset ends stands in memory whole (`true`) or not at all
(`false`): R148 leaves open which. A free value: no body, one answer for each count of such ends
(notes/assumptions/3.md). -/
opaque endedWriteStands : Nat → Bool

end Sys2Proof.Config
end

