-- ==== Sys2Proof/Syntax.lean ====
section
/-! DEFINITION. The commands: one constructor for each row of spec/opcode_table.json. A row is one step
of the part, whole and indivisible (95_what_each_step_holds.md). Three rows carry something from outside:
a presented host cycle carries the cycle, a release of RESET the levels of the strap inputs, the end of an
on-time the levels of the sense inputs. The rows that take a host write read it from the cycle the host has
presented, since the host presents one cycle at a time and every host write is first presented (R145). -/

namespace Sys2Proof

/-- The byte enables of a host cycle (R145). -/
structure Lanes where
  low  : Bool
  high : Bool
  deriving DecidableEq, Repr

/-- A host cycle: an address, read or write, the byte enables and, for a write, the data (R145). -/
inductive HostCycle where
  | read  (addr : Nat) (lanes : Lanes)
  | write (addr : Nat) (lanes : Lanes) (data : Word)
  deriving DecidableEq, Repr

/-- The host byte address a cycle carries. -/
def HostCycle.addr : HostCycle → Nat
  | .read a _ => a
  | .write a _ _ => a

/-- The part's steps, in the order of spec/opcode_table.json. -/
inductive Instr where
  | resetAsserted                              -- R148
  | resetReleased (straps : BitVec 4)          -- R149
  | hostCyclePresented (cycle : HostCycle)     -- R145
  | arbiterDecision                            -- R151
  | hostWrite                                  -- R146
  | publishedCellWrite                         -- R140
  | start                                      -- R3
  | stop                                       -- R18
  | flip                                       -- R45
  | reload                                     -- R46
  | flushQueue                                 -- R89
  | keyReset                                   -- R74
  | panelReset                                 -- R123
  | abort                                      -- R121
  | unknownCommand                             -- R113
  | argumentWrite                              -- R117
  | pendingCellWrite                           -- R129
  | enableCellWrite                            -- R131
  | consumerCellWrite                          -- R87
  | globalLevelWrite                           -- R17
  | patternWrite                               -- R40
  | tableWrite                                 -- R99
  | latchReadComplete                          -- R97
  | lengthAccepted                             -- R91
  | fillWord0Read                              -- R35
  | fillWord1Read                              -- R36
  | fillReadDiscarded                          -- R38
  | runningBegins                              -- R4
  | nextFrameReady                             -- R48
  | slotStart                                  -- R8
  | litTicksEnd                                -- R11
  | onTimeEnd (sense : BitVec 8)               -- R7, R15
  | frameBoundary                              -- R16
  | switchTimeout                              -- R49
  | repeatDue                                  -- R73
  | writeStageWriteDone                        -- R138
  | recordComplete                             -- R85
  | queueData                                  -- R85
  | completingEnds                             -- R119
  | flushQueueDone                             -- R89
  | drainRetry                                 -- R75
  | commandCellWrite                           -- R114
  deriving DecidableEq, Repr

end Sys2Proof
end

