-- ==== Sys2Proof/WellFormed.lean ====
section
/-! DEFINITION. Which commands are well formed. The one operand that can lie outside its range is the
address of a host cycle: host byte addresses are 20 bits wide (00_scope.md, Addresses and data). Lanes,
data, straps and sense levels are as wide as the lines that carry them, and a cycle with neither byte
enable is a cycle like any other (R145). -/

namespace Sys2Proof

/-- The cycle's address lies in the host's address space. -/
def HostCycle.wellFormed (c : HostCycle) : Bool := decide (c.addr < Config.hostSpace)

/-- The command's operands lie in the ranges the manual gives them. -/
def Instr.wellFormed : Instr → Bool
  | .hostCyclePresented c => c.wellFormed
  | .resetAsserted | .resetReleased _ | .arbiterDecision | .hostWrite | .publishedCellWrite
  | .start | .stop | .flip | .reload | .flushQueue | .keyReset | .panelReset | .abort
  | .unknownCommand | .argumentWrite | .pendingCellWrite | .enableCellWrite | .consumerCellWrite
  | .globalLevelWrite | .patternWrite | .tableWrite | .latchReadComplete | .lengthAccepted
  | .fillWord0Read | .fillWord1Read | .fillReadDiscarded | .runningBegins | .nextFrameReady
  | .slotStart | .litTicksEnd | .onTimeEnd _ | .frameBoundary | .switchTimeout | .repeatDue
  | .writeStageWriteDone | .recordComplete | .queueData | .completingEnds | .flushQueueDone
  | .drainRetry | .commandCellWrite => true

end Sys2Proof
end

