-- ==== Sys2Proof/Machine/State.lean ====
section
/-! DEFINITION. The state of the part, block by block (00_scope.md, Block diagram), the host's RAM behind
the memory bus, and the queue of commands that wait. Plain data throughout. A list that the manual allows
to be "none" (a scan table, the config image) is the empty list. -/

namespace Sys2Proof.Machine

/-- Why a step stops with a fault. -/
inductive Fault where
  /-- Raised by HOST_CYCLE_PRESENTED for an address outside the 20-bit host space (00_scope.md): no host
  bus carries it. Safe: the model stops where the hardware has no such cycle. -/
  | noSuchAddress
  deriving DecidableEq, Repr

/-- Why a step refuses a command. -/
inductive Refusal where
  /-- Raised by `exec` for a row that has no meaning yet. Safe. No arm answers with it. -/
  | notModelled (mnemonic : String)
  deriving DecidableEq, Repr

/-! ### Pass-through unit -/

/-- The byte lanes the part drives on the host bus after a host read (R145): `none` is a lane the read
did not enable. -/
structure HostData where
  low  : Option Byte
  high : Option Byte
  deriving DecidableEq, Repr

/-- The pass-through unit (R144, R145) and the host bus it stands on. -/
structure PassThrough where
  windowBase : Nat
  resetHeld  : Bool
  straps     : BitVec 4
  waiting    : Option HostCycle
  waitLine   : Bool
  hostData   : HostData
  deriving DecidableEq, Repr

/-! ### Write stage -/

/-- The seven cells that can have an entry in the cell update list (R135). -/
inductive Cell where
  | statusRecord | command | pending | producer | consumer | shownBase | scanState
  deriving DecidableEq, Repr

/-- The four words of the status record (R120). -/
structure StatusRecord where
  code     : Word
  result   : Word
  sequence : Word
  detail   : Word
  deriving DecidableEq, Repr

/-- What an entry of the cell update list carries: one word, or the status record with the number of its
words written (R135). -/
inductive EntryValue where
  | word (v : Word)
  | status (r : StatusRecord) (written : Nat)
  deriving DecidableEq, Repr

/-- An entry of the cell update list (R135). -/
structure Entry where
  cell  : Cell
  value : EntryValue
  deriving DecidableEq, Repr

/-- The kinds of key event (R63, R156). -/
inductive KeyEventKind where
  | press | release | repeatKey | jam | jamClear
  deriving DecidableEq, Repr

/-- What the key scanner hands over with a request for a reservation (R63). -/
structure KeyEvent where
  kind        : KeyEventKind
  key         : Nat
  repeatCount : Nat
  downAfter   : Nat
  deriving DecidableEq, Repr

/-- A staged event: the fields of its record and its ring position (R83, R135). -/
structure StagedEvent where
  event    : KeyEvent
  sequence : Byte
  stamp    : Word
  position : Nat
  deriving DecidableEq, Repr

/-- The write stage's two lists and its record progress (R135). -/
structure WriteStage where
  updates        : List Entry
  staging        : List StagedEvent
  recordProgress : Nat
  deriving DecidableEq, Repr

/-! ### Memory-port arbiter -/

/-- The word a write stage write goes to: a one-word cell, word 0 to 3 of the status record, or word 0 to 3
of the head staged event's record at a ring position (R135, R137). -/
inductive WriteTarget where
  | cell (c : Cell)
  | status (word : Nat)
  | record (position word : Nat)
  deriving DecidableEq, Repr

/-- The memory cycle under way at the memory port (R151, R153). A fill read knows its line, the pattern
index and word it reads, and whether its fill has been withdrawn since the grant (R38). A write knows the
data fixed at the grant and whether its cell's value has been replaced since (R138). -/
inductive PortCycle where
  | free
  | fill (line : Nat) (index : PatternIndex) (word : Nat) (withdrawn : Bool)
  | latch (offset : Nat)
  | write (target : WriteTarget) (data : Word) (replaced : Bool)
  deriving DecidableEq, Repr

/-- The classes of part cycle, in the arbiter's order (R151). -/
inductive PartClass where
  | demand | write | latch | prefetch
  deriving DecidableEq, Repr

/-- The memory-port arbiter (R150); the waiting requests are computed from their requesters. -/
structure Arbiter where
  starveCounter : Nat
  starveLimit   : Nat
  port          : PortCycle
  deriving DecidableEq, Repr

/-! ### Command unit -/

/-- The command unit's states (R111). -/
inductive UnitState where
  | idle | busy | completing
  deriving DecidableEq, Repr

/-- The command unit (R111) with the status record last placed (R140). -/
structure CommandUnit where
  unit      : UnitState
  cellValue : Word
  taken     : Option Word
  argument  : Word
  argCopy   : Word
  statusSeq : Word
  announce  : Bool
  record    : StatusRecord
  deriving DecidableEq, Repr

/-! ### Scan engine -/

/-- The scan states (R1). -/
inductive ScanState where
  | off | starting | running
  deriving DecidableEq, Repr

/-- Where in a slot the engine is (R1, R7). `boundaryTaken` is the model's own: the frame boundary has been
taken and slot 0 of the next frame has not started, the moment at which STOP can fall between the two (R19). -/
inductive Phase where
  | onTime | gap | boundaryTaken
  deriving DecidableEq, Repr

/-- A slot record in force (R1); `grid` is `none` for a dark slot. -/
structure SlotRecord where
  grid   : Option (BitVec 4)
  sense  : Bool
  offset : PatternIndex
  onTime : Nat
  deriving DecidableEq, Repr

/-- A captured pattern that is not "unlit" (R1, R8). -/
structure Captured where
  segments : BitVec 24
  level    : Nat
  deriving DecidableEq, Repr

/-- The scan engine (R1), the lines it drives (R11) and the inputs it samples (R15). -/
structure ScanEngine where
  state          : ScanState
  table          : List SlotRecord
  frameBase      : PatternIndex
  globalLevel    : Nat
  pendingLevel   : Nat
  tickDivide     : Nat
  gapTicks       : Nat
  slotIndex      : Nat
  phase          : Phase
  ticksRemaining : Nat
  captured       : Option Captured
  litTicks       : Nat
  frameCounter   : Word
  gridLines      : BitVec 16
  segLines       : BitVec 24
  senseLines     : BitVec 8
  deriving DecidableEq, Repr

/-! ### Table latch -/

/-- The latch's progress (R95). -/
inductive LatchProgress where
  | idle | reading | holding | warming
  deriving DecidableEq, Repr

/-- The command a latch serves (R95). -/
inductive Purpose where
  | start | reload
  deriving DecidableEq, Repr

/-- A scan record as read, before any check (R95, R98). -/
structure RawRecord where
  grid   : Byte
  flags  : Byte
  offset : Word
  onTime : Word
  deriving DecidableEq, Repr

/-- The table latch (R95). -/
structure TableLatch where
  progress  : LatchProgress
  purpose   : Purpose
  restarts  : Nat
  wordsRead : List Nat
  image     : List Word
  table     : List RawRecord
  deriving DecidableEq, Repr

/-! ### Frame cache -/

/-- The states of a line (R22). -/
inductive LineState where
  | empty | filling | valid
  deriving DecidableEq, Repr

/-- The two pins (2.2 of 02_frame_cache.md). -/
inductive Pin where
  | current | next
  deriving DecidableEq, Repr

/-- A line of the frame cache (R22). -/
structure Line where
  state     : LineState
  index     : PatternIndex
  wordsRead : Nat
  segments  : BitVec 24
  level     : Byte
  current   : Bool
  next      : Bool
  lastUse   : Word
  deriving DecidableEq, Repr

/-- The classes of fill request (R32). -/
inductive FillClass where
  | demand | prefetch
  deriving DecidableEq, Repr

/-- An entry of the fill request list (R32). -/
structure FillEntry where
  line : Nat
  cls  : FillClass
  deriving DecidableEq, Repr

/-- The frame cache (R22, R32). -/
structure FrameCache where
  lines : List Line
  fills : List FillEntry
  deriving DecidableEq, Repr

/-! ### Frame switch -/

/-- The states of the next-frame record (R44). -/
inductive SwitchState where
  | none | preparing | ready
  deriving DecidableEq, Repr

/-- The next-frame record and the switch timeout in force (R44). -/
structure FrameSwitch where
  state        : SwitchState
  nextTable    : List SlotRecord
  nextBase     : PatternIndex
  framesWaited : Nat
  timeout      : Nat
  deriving DecidableEq, Repr

/-! ### Key scanner -/

/-- An entry of the key table (R58): `down` is the stable state. -/
structure Key where
  down  : Bool
  count : Nat
  held  : Bool
  deriving DecidableEq, Repr

/-- How far a running KEY_RESET has gone (R58, R75). -/
inductive KeyResetProgress where
  | idle
  | draining (key : Nat)
  | clearingJam
  deriving DecidableEq, Repr

/-- The key scanner (R58, R59). `released` counts the RELEASE events a running drain has staged (R76); with no drain
it is 0, the model's choice (notes/assumptions/23.md). -/
structure KeyScanner where
  table          : List Key
  jammed         : Bool
  refusalMark    : Bool
  repeatKey      : Option Nat
  framesToRepeat : Nat
  repeatCount    : Nat
  reset          : KeyResetProgress
  released       : Nat
  debounce       : Nat
  repeatDelay    : Nat
  repeatInterval : Nat
  rollover       : Nat
  closedHigh     : Bool
  deriving DecidableEq, Repr

/-! ### Event queue and event unit -/

/-- The event queue (R81). -/
structure EventQueue where
  len        : Nat
  prod       : Nat
  cons       : Nat
  nextSeq    : Byte
  acceptance : Option Nat
  announce   : Bool
  deriving DecidableEq, Repr

/-- The event kinds (R127). -/
inductive EventKind where
  | commandDone | queueData | queueError | collision | underrun
  deriving DecidableEq, Repr

/-- The event unit (R127): one bit to each kind, in the order of R157. `intLine` is true while INT is
asserted. -/
structure EventUnit where
  pendingSet : BitVec 5
  enableSet  : BitVec 5
  intLine    : Bool
  deriving DecidableEq, Repr

/-! ### The part -/

/-- The whole part, the host's RAM, and the commands that wait, first in, first out. `mem` lists
(address, byte) pairs in the canonical form of `Memory.wf` (Machine/Ops.lean). `freeCount` says how many
free values have been drawn (notes/assumptions/3.md). -/
structure State where
  pass      : PassThrough
  arb       : Arbiter
  ws        : WriteStage
  cmd       : CommandUnit
  latch     : TableLatch
  scan      : ScanEngine
  cache     : FrameCache
  switch    : FrameSwitch
  keys      : KeyScanner
  queue     : EventQueue
  events    : EventUnit
  mem       : List Host.Cell
  freeCount : Nat
  pending   : List Instr
  deriving DecidableEq, Repr

/-! ### Values after reset -/

/-- An EMPTY line as a reset leaves it (R42). DESIGN CHOICE, unsafe: the pattern index, which R22 calls meaningless
in an EMPTY line, is held as 0, here and after a withdrawal (notes/assumptions/21.md). -/
def Line.emptied : Line :=
  ⟨.empty, 0, 0, 0, 0, false, false, 0⟩

/-- A key as a reset leaves it: UP, count 0, not held (R80). -/
def Key.up : Key := ⟨false, 0, false⟩

/-- The pass-through unit while RESET is held (R144, R148). DESIGN CHOICE, unsafe: the window base and the
straps before the first release, and the data last returned (notes/assumptions/1.md, 11.md). -/
def PassThrough.lineReset : PassThrough :=
  ⟨0, true, 0, none, false, ⟨none, none⟩⟩

/-- The arbiter's line-reset values (R150). -/
def Arbiter.lineReset : Arbiter := ⟨0, 4, .free⟩

/-- The write stage's line-reset values (R135). -/
def WriteStage.lineReset : WriteStage := ⟨[], [], 0⟩

/-- The command unit's line-reset values (R125). DEDUCED, unsafe: the record is the one the initial
publication places (R126, notes/assumptions/1.md). -/
def CommandUnit.lineReset : CommandUnit :=
  ⟨.completing, 0, none, 0, 0, 0, false, ⟨0, 0, 0, 0⟩⟩

/-- The latch's IDLE values (R95, R110). DESIGN CHOICE, unsafe: the purpose, meaningless in IDLE
(notes/assumptions/8.md). -/
def TableLatch.idle : TableLatch := ⟨.idle, .start, 0, [], [], []⟩

/-- The scan engine's line-reset values (R2). DESIGN CHOICE, unsafe: the slot's fields, meaningless outside
RUNNING, and the sense inputs (notes/assumptions/8.md, 14.md). -/
def ScanEngine.lineReset : ScanEngine :=
  { state := .off, table := [], frameBase := 0, globalLevel := 15, pendingLevel := 15,
    tickDivide := 1, gapTicks := 1, slotIndex := 0, phase := .gap, ticksRemaining := 0,
    captured := none, litTicks := 0, frameCounter := 0, gridLines := 0, segLines := 0,
    senseLines := 0 }

/-- The frame cache's line-reset values (R42). -/
def FrameCache.lineReset : FrameCache :=
  ⟨List.replicate Config.lineCount Line.emptied, []⟩

/-- The next-frame record NONE (R44) under a switch timeout. -/
def FrameSwitch.noNext (timeout : Nat) : FrameSwitch := ⟨.none, [], 0, 0, timeout⟩

/-- The frame switch's line-reset values (R56). -/
def FrameSwitch.lineReset : FrameSwitch := FrameSwitch.noNext 1

/-- The key scanner's line-reset values (R59, R80). DESIGN CHOICE, unsafe: with no drain the number of releases staged
is held as 0 (notes/assumptions/23.md). -/
def KeyScanner.lineReset : KeyScanner :=
  { table := List.replicate Config.keyCount Key.up, jammed := false, refusalMark := false,
    repeatKey := none, framesToRepeat := 0, repeatCount := 0, reset := .idle, released := 0,
    debounce := 1, repeatDelay := 0, repeatInterval := 1, rollover := 2, closedHigh := false }

/-- The event queue's line-reset values (R93). -/
def EventQueue.lineReset : EventQueue := ⟨16, 0, 0, 0, none, false⟩

/-- The event unit's line-reset values (R133). -/
def EventUnit.lineReset : EventUnit := ⟨0, 0, false⟩

/-- The part with RESET asserted and held: every block at the value its chapter states for that moment
(R2, R42, R56, R80, R93, R110, R125, R133, R142, R144, R150), memory with nothing listed, nothing waiting.
The first command that does anything but pass host cycles is RESET_RELEASED. DESIGN CHOICE, unsafe: that
reset is this moment (notes/assumptions/1.md), and the count of free values drawn (notes/assumptions/3.md). -/
def State.reset : State :=
  { pass := .lineReset, arb := .lineReset, ws := .lineReset, cmd := .lineReset, latch := .idle,
    scan := .lineReset, cache := .lineReset, switch := .lineReset, keys := .lineReset,
    queue := .lineReset, events := .lineReset, mem := [], freeCount := 0, pending := [] }

/-! ### Replacing one block -/

/-- `s` with another pass-through unit. -/
def State.withPass (s : State) (x : PassThrough) : State := { s with pass := x }
/-- `s` with another arbiter. -/
def State.withArb (s : State) (x : Arbiter) : State := { s with arb := x }
/-- `s` with another write stage. -/
def State.withWs (s : State) (x : WriteStage) : State := { s with ws := x }
/-- `s` with another command unit. -/
def State.withCmd (s : State) (x : CommandUnit) : State := { s with cmd := x }
/-- `s` with another table latch. -/
def State.withLatch (s : State) (x : TableLatch) : State := { s with latch := x }
/-- `s` with another scan engine. -/
def State.withScan (s : State) (x : ScanEngine) : State := { s with scan := x }
/-- `s` with another frame cache. -/
def State.withCache (s : State) (x : FrameCache) : State := { s with cache := x }
/-- `s` with another frame switch. -/
def State.withSwitch (s : State) (x : FrameSwitch) : State := { s with switch := x }
/-- `s` with another key scanner. -/
def State.withKeys (s : State) (x : KeyScanner) : State := { s with keys := x }
/-- `s` with another event queue. -/
def State.withQueue (s : State) (x : EventQueue) : State := { s with queue := x }
/-- `s` with another event unit. -/
def State.withEvents (s : State) (x : EventUnit) : State := { s with events := x }
/-- `s` with another memory. -/
def State.withMem (s : State) (x : List Host.Cell) : State := { s with mem := x }
/-- `s` with another count of free values drawn. -/
def State.withFreeCount (s : State) (x : Nat) : State := { s with freeCount := x }
/-- `s` with another queue of waiting commands. -/
def State.withPending (s : State) (x : List Instr) : State := { s with pending := x }

end Sys2Proof.Machine
end

