-- ==== Sys2Proof/Machine/Operands.lean ====
section
/-! DEFINITION. How operands are read: byte lanes and the words formed from one-lane writes, the segments
of a pattern word, the window and the owners of its cells, result codes. -/

namespace Sys2Proof.Machine

/-! ### Bytes, lanes and words -/

/-- The low lane of a word, bits 0 to 7 (11_window_formats.md). -/
def lowByte (w : Word) : Byte := w.extractLsb' 0 8

/-- The high lane of a word, bits 8 to 15 (11_window_formats.md). -/
def highByte (w : Word) : Byte := w.extractLsb' 8 8

/-- A word from its two lanes. -/
def joinBytes (high low : Byte) : Word := high ++ low

/-- A number as a word. -/
def toWord (n : Nat) : Word := BitVec.ofNat 16 n

/-- Both lanes. -/
def bothLanes : Lanes := ⟨true, true⟩

/-- Whether a cycle carries a lane at all (R145). -/
def carriesLane (l : Lanes) : Bool := l.low || l.high

/-- The 16-bit value a write forms: each lane it carries supplies its byte, a lane it does not carry is
supplied from `old` (R112 for the command cell, R117 for the argument copy, R87 for the consumer cell). -/
def mergeLanes (l : Lanes) (d old : Word) : Word :=
  joinBytes (if l.high then highByte d else highByte old) (if l.low then lowByte d else lowByte old)

/-- A write is zero when every byte it carries is 0 (R112). -/
def isZeroWrite (l : Lanes) (d : Word) : Bool :=
  (!l.low || lowByte d == 0) && (!l.high || highByte d == 0)

/-- The level a write of the global level cell gives, if it carries the low lane; above 15 is taken as 15
(R17). -/
def levelOfWrite (l : Lanes) (d : Word) : Option Nat :=
  if l.low then some (min 15 (if l.high then d.toNat else (lowByte d).toNat)) else none

/-- The even address of the word a host byte address reaches (R145). -/
def wordAddr (a : Nat) : Nat := a / 2 * 2

/-! ### Segments of a pattern (R39, R155) -/

/-- Segments 8 × k to 8 × k + 7 of a segment set. -/
def segByte (segs : BitVec 24) (k : Nat) : Byte := segs.extractLsb' (8 * k) 8

/-- A segment set from its three bytes. -/
def joinSegs (b2 b1 b0 : Byte) : BitVec 24 := b2 ++ b1 ++ b0

/-- A line with the written lanes of one word of its pattern record placed into it (R39). -/
def placeLanes (word : Nat) (l : Lanes) (d : Word) (line : Line) : Line :=
  if word = 0 then
    { line with
      segments := joinSegs (segByte line.segments 2)
        (if l.high then highByte d else segByte line.segments 1)
        (if l.low then lowByte d else segByte line.segments 0) }
  else
    { line with
      segments := joinSegs (if l.low then lowByte d else segByte line.segments 2)
        (segByte line.segments 1) (segByte line.segments 0),
      level := if l.high then highByte d else line.level }

/-! ### Result codes (11.5 of 11_window_formats.md) -/

/-- The results a completion reports (R120). -/
inductive Result where
  | reset | done | refusedState | configError | tableUnstable | late | unknown | badArgument
  | nothingToAbort
  deriving DecidableEq, Repr

/-- The code of a result in the status result word. -/
def resultCode : Result → Word
  | .reset => 0
  | .done => 1
  | .refusedState => 2
  | .configError => 3
  | .tableUnstable => 4
  | .late => 5
  | .unknown => 6
  | .badArgument => 7
  | .nothingToAbort => 8

/-! ### Cells and their current values -/

/-- The window offset of a cell; for the status record, of its first word (R135). -/
def cellOffset : Cell → Nat
  | .statusRecord => 0x008
  | .command => 0x000
  | .pending => 0x010
  | .producer => 0x018
  | .consumer => 0x01A
  | .shownBase => 0x01C
  | .scanState => 0x01E

/-- The window offset of the word a write stage write goes to (R137, R84). -/
def targetOffset : WriteTarget → Nat
  | .cell c => cellOffset c
  | .status k => 0x008 + 2 * k
  | .record position k => Config.ringBase + 8 * position + 2 * k

/-- Word 0 to 3 of a status record: code, result, sequence, detail (R120). -/
def statusWord (r : StatusRecord) (k : Nat) : Word :=
  if k = 0 then r.code else if k = 1 then r.result else if k = 2 then r.sequence else r.detail

/-- The code of a scan state in the scan state cell (R2). -/
def scanStateCode : ScanState → Byte
  | .off => 0
  | .starting => 1
  | .running => 2

/-- The scan state cell's value: low byte the scan state, high byte the slot count in force (R2). -/
def scanStateWord (s : State) : Word :=
  joinBytes (BitVec.ofNat 8 s.scan.table.length) (scanStateCode s.scan.state)

/-- The shown base cell's value: the frame base in force (R2). -/
def shownBaseWord (s : State) : Word := s.scan.frameBase.setWidth 16

/-- The pending cell's value: the pending set with high byte 0 (R128, R157). -/
def pendingWord (s : State) : Word := s.events.pendingSet.setWidth 16

/-- The part's own value for a one-word cell (R140, R141); the status record has four words instead. -/
def cellWord (s : State) : Cell → Word
  | .statusRecord => s.cmd.record.code
  | .command => s.cmd.cellValue
  | .pending => pendingWord s
  | .producer => toWord s.queue.prod
  | .consumer => toWord s.queue.cons
  | .shownBase => shownBaseWord s
  | .scanState => scanStateWord s

/-- The part's current value for the published word at a window offset (R140). -/
def publishedWord (s : State) (off : Nat) : Word :=
  if off = 0x018 then cellWord s .producer
  else if off = 0x01C then cellWord s .shownBase
  else if off = 0x01E then cellWord s .scanState
  else statusWord s.cmd.record ((off - 0x008) / 2)

/-! ### The window and its owners (R144, R146) -/

/-- What a host write reaches, by R146. -/
inductive Destination where
  | plain | command | argument
  | published (off : Nat)
  | pendingCell | enableCell | consumerCell | globalLevel
  | watched (off : Nat)
  | pattern (off : Nat)
  deriving DecidableEq, Repr

/-- The purpose of a latch that is READING, if any (R99). -/
def readingPurpose (s : State) : Option Purpose :=
  if s.latch.progress = .reading then some s.latch.purpose else none

/-- The table of R146, by the window offset of the word. -/
def destinationOfOffset (reading : Option Purpose) (off : Nat) : Destination :=
  if off = 0x000 then .command
  else if off = 0x002 then .argument
  else if off = 0x008 ∨ off = 0x00A ∨ off = 0x00C ∨ off = 0x00E ∨ off = 0x018 ∨ off = 0x01C ∨ off = 0x01E then
    .published off
  else if off = 0x010 then .pendingCell
  else if off = 0x012 then .enableCell
  else if off = 0x01A then .consumerCell
  else if off = 0x024 then .globalLevel
  else if 0x020 ≤ off ∧ off ≤ 0x036 then
    if reading = some .start then .watched off else .plain
  else if 0x100 ≤ off ∧ off ≤ 0x1BF then
    if reading.isSome then .watched off else .plain
  else if 0x400 ≤ off ∧ off ≤ 0xBFF then .pattern off
  else .plain

/-- Whether a host byte address lies in the panel window (R144). -/
def inWindow (s : State) (a : Nat) : Bool :=
  decide (s.pass.windowBase ≤ a ∧ a < s.pass.windowBase + Config.windowSize)

/-- What a host write reaches; a write that carries no lane is handed to no block (R145, R146). -/
def destination (s : State) (a : Nat) (l : Lanes) : Destination :=
  if carriesLane l && inWindow s a then
    destinationOfOffset (readingPurpose s) (wordAddr a - s.pass.windowBase)
  else .plain

end Sys2Proof.Machine
end

