-- ==== Sys2Proof/Machine/Ops.lean ====
section
/-! DEFINITION. Memory and its words, the cell update list, completions: the operations every block
shares. -/

namespace Sys2Proof.Machine

/-! ### Memory -/

/-- The host's RAM: (address, byte) pairs, addresses strictly rising, none equal to what an unlisted
address reads as. -/
abbrev Memory := List Host.Cell

/-- Reading one byte. -/
def byteAt : Memory → Nat → Byte
  | [], _ => Config.unwritten
  | (k, b) :: m, a => if a = k then b else byteAt m a

/-- Writing one byte, keeping the canonical form. -/
def putByte : Memory → Nat → Byte → Memory
  | [], a, b => if b = Config.unwritten then [] else [(a, b)]
  | (k, c) :: m, a, b =>
    if a < k then
      if b = Config.unwritten then (k, c) :: m else (a, b) :: (k, c) :: m
    else if a = k then
      if b = Config.unwritten then m else (a, b) :: m
    else (k, c) :: putByte m a b

/-- Every address of the list lies above `lo`, rising, with no listed byte equal to the unwritten one. -/
def Memory.wfFrom : Option Nat → Memory → Bool
  | _, [] => true
  | lo, (k, b) :: m =>
    (match lo with | none => true | some j => decide (j < k)) && b != Config.unwritten
      && Memory.wfFrom (some k) m

/-- The canonical form holds. -/
def Memory.wf (m : Memory) : Bool := Memory.wfFrom none m

/-- Reading the word at an even address. -/
def wordAt (m : Memory) (a : Nat) : Word := joinBytes (byteAt m (a + 1)) (byteAt m a)

/-- Writing the carried lanes of the word at an even address; a lane not carried is not written (R147). -/
def putLanes (m : Memory) (a : Nat) (l : Lanes) (d : Word) : Memory :=
  let m₁ := if l.low then putByte m a (lowByte d) else m
  if l.high then putByte m₁ (a + 1) (highByte d) else m₁

/-- The host byte address of a window offset (R144). -/
def windowAddr (s : State) (off : Nat) : Nat := s.pass.windowBase + off

/-- The word at a window offset. -/
def windowWord (s : State) (off : Nat) : Word := wordAt s.mem (windowAddr s off)

/-- Memory receives the carried lanes of `d` at the word a host address reaches. -/
def storeHost (a : Nat) (l : Lanes) (d : Word) (s : State) : State :=
  s.withMem (putLanes s.mem (wordAddr a) l d)

/-! ### The cell update list (R136) -/

/-- Whether the list holds an entry for the cell. -/
def hasEntry (c : Cell) (us : List Entry) : Bool := us.any (fun e => e.cell = c)

/-- The value of the cell's entry is replaced in place. -/
def replaceEntry (c : Cell) (v : EntryValue) (us : List Entry) : List Entry :=
  us.map (fun e => if e.cell = c then { e with value := v } else e)

/-- The cell's entry leaves the list. -/
def dropEntry (c : Cell) (us : List Entry) : List Entry := us.filter (fun e => e.cell ≠ c)

/-- A replaced value marks the write of that cell under way, if there is one (R138). -/
def markReplaced (c : Cell) : PortCycle → PortCycle
  | .write (.cell c') d r => .write (.cell c') d (r || decide (c' = c))
  | p => p

/-- The waiting value of a cell is replaced in place, if an entry waits; otherwise nothing (R87, R129). -/
def replaceWaiting (c : Cell) (v : EntryValue) (s : State) : State :=
  if hasEntry c s.ws.updates then
    (s.withWs { s.ws with updates := replaceEntry c v s.ws.updates }).withArb
      { s.arb with port := markReplaced c s.arb.port }
  else s

/-- A block places an update for a cell (R136). -/
def placeUpdate (c : Cell) (v : EntryValue) (s : State) : State :=
  if hasEntry c s.ws.updates then replaceWaiting c v s
  else s.withWs { s.ws with updates := s.ws.updates ++ [⟨c, v⟩] }

/-- An update carrying the part's own value of a one-word cell. -/
def publish (c : Cell) (s : State) : State := placeUpdate c (.word (cellWord s c)) s

/-! ### Completions (R119) -/

/-- The status record the completion of this moment carries. -/
def nextRecord (code : Word) (r : Result) (detail : Word) (s : State) : StatusRecord :=
  ⟨code, resultCode r, s.cmd.statusSeq + 1, detail⟩

/-- The command unit with a completion decided: sequence increased, announced, COMPLETING. -/
def completing (code : Word) (r : Result) (detail : Word) (s : State) : CommandUnit :=
  { s.cmd with
    statusSeq := s.cmd.statusSeq + 1, announce := true, unit := .completing,
    record := nextRecord code r detail s }

/-- The command unit places a completion: the status record, then the clearing of the command cell. -/
def complete (code : Word) (r : Result) (detail : Word) (s : State) : State :=
  placeUpdate .command (.word 0)
    (placeUpdate .statusRecord (.status (nextRecord code r detail s) 0)
      (s.withCmd (completing code r detail s)))

/-- The running command completes under its own code (R120). -/
def completeTaken (r : Result) (detail : Word) (s : State) : State :=
  complete (s.cmd.taken.getD 0) r detail s

end Sys2Proof.Machine
end

