-- ==== Sys2Proof/Machine/Flags.lean ====
section
/-! DEFINITION. The event kinds as flags: the pending set, the enable set and the interrupt line. -/

namespace Sys2Proof.Machine

/-- The bit of a kind in the pending and enable cells (R157). -/
def kindBit : EventKind → BitVec 5
  | .commandDone => 1
  | .queueData => 2
  | .queueError => 4
  | .collision => 8
  | .underrun => 16

/-- Whether a kind is in a set. -/
def hasKind (set : BitVec 5) (k : EventKind) : Bool := (set &&& kindBit k) != 0

/-- INT is asserted while the intersection of the two sets is not empty (R132). -/
def intOf (pendingSet enableSet : BitVec 5) : Bool := (pendingSet &&& enableSet) != 0

/-- The event unit with another pending set, INT decided afresh. -/
def withPendingSet (e : EventUnit) (p : BitVec 5) : EventUnit :=
  { e with pendingSet := p, intLine := intOf p e.enableSet }

/-- The event unit with another enable set, INT decided afresh. -/
def withEnableSet (e : EventUnit) (n : BitVec 5) : EventUnit :=
  { e with enableSet := n, intLine := intOf e.pendingSet n }

/-- A block raises a kind (R128). -/
def raise (k : EventKind) (s : State) : State :=
  if hasKind s.events.pendingSet k then s
  else publish .pending (s.withEvents (withPendingSet s.events (s.events.pendingSet ||| kindBit k)))

/-- The kinds a byte names; positions 5 to 7 name none (R129, R131, R157). -/
def kindsOfByte (b : Byte) : BitVec 5 := b.extractLsb' 0 5

/-- The pending set after a host write to the pending cell (R129): the low lane removes the kinds it writes
as 1, the high lane removes nothing. -/
def clearedBy (l : Lanes) (d : Word) (p : BitVec 5) : BitVec 5 :=
  if l.low then p &&& ~~~ kindsOfByte (lowByte d) else p

end Sys2Proof.Machine
end

