-- ==== Sys2Proof/Machine/CacheOps.lean ====
section
/-! DEFINITION. The frame cache's operations: lookup, pins, allocation, the fill request list, following
host writes (02_frame_cache.md). -/

namespace Sys2Proof.Machine

/-- Whether the line carries the pin. -/
def hasPin (p : Pin) (l : Line) : Bool :=
  match p with
  | .current => l.current
  | .next => l.next

/-- The line with the pin present. -/
def addPin (p : Pin) (l : Line) : Line :=
  match p with
  | .current => { l with current := true }
  | .next => { l with next := true }

/-- The line with the pin absent. -/
def dropPin (p : Pin) (l : Line) : Line :=
  match p with
  | .current => { l with current := false }
  | .next => { l with next := false }

/-- Whether the line carries a pin. -/
def pinned (l : Line) : Bool := l.current || l.next

/-- Whether the line holds the pattern index: it is not EMPTY and its index is this one (R23). -/
def holds (idx : PatternIndex) (l : Line) : Bool := decide (l.state ≠ .empty ∧ l.index = idx)

/-- The number of the line that holds a pattern index (R23). -/
def lineOf (idx : PatternIndex) (lines : List Line) : Option Nat := lines.findIdx? (holds idx)

/-- The pattern a slot captures: that of a VALID line that holds the index (R8, R23). -/
def lookupValid (idx : PatternIndex) (lines : List Line) : Option Line :=
  lines.find? (fun l => holds idx l && decide (l.state = .valid))

/-! ### Index sets -/

/-- The distinct members of a list, each where it first stands: the slot order of 2.2. -/
def distinct (is : List PatternIndex) : List PatternIndex :=
  is.foldl (fun acc i => if i ∈ acc then acc else acc ++ [i]) []

/-- The pattern indices a table names under a frame base, dark slots included, in slot order (2.2). -/
def indexSet (table : List SlotRecord) (base : PatternIndex) : List PatternIndex :=
  distinct (table.map (fun r => base + r.offset))

/-! ### Allocation (R25) -/

/-- A line's age at a frame counter, modulo 65536 (R25). -/
def age (fc : Word) (l : Line) : Nat := (fc - l.lastUse).toNat

/-- Whether the line may be reused: VALID and carrying neither pin (R25). -/
def reusable (l : Line) : Bool := decide (l.state = .valid) && !pinned l

/-- The oldest reusable line from number `n` on, the lowest number among equals; `best` is the best line
before. -/
def oldestFrom (fc : Word) : List Line → Nat → Option (Nat × Nat) → Option (Nat × Nat)
  | [], _, best => best
  | l :: ls, n, best =>
    let best' :=
      if reusable l then
        match best with
        | none => some (n, age fc l)
        | some (m, a) => if a < age fc l then some (n, age fc l) else some (m, a)
      else best
    oldestFrom fc ls (n + 1) best'

/-- The line an allocation chooses (R25): the lowest EMPTY line, otherwise the oldest reusable one. -/
def chooseLine (fc : Word) (lines : List Line) : Option Nat :=
  match lines.findIdx? (fun l => decide (l.state = .empty)) with
  | some n => some n
  | none => (oldestFrom fc lines 0 none).map Prod.fst

/-- The class under which a line allocated with a pin joins the fill request list (R24). -/
def classOfPin : Pin → FillClass
  | .current => .demand
  | .next => .prefetch

/-- An entry joins the fill request list: DEMAND after the last DEMAND entry, PREFETCH at the end (R32). -/
def joinFills (e : FillEntry) (fs : List FillEntry) : List FillEntry :=
  match e.cls with
  | .demand => fs.filter (fun f => f.cls = .demand) ++ [e] ++ fs.filter (fun f => f.cls = .prefetch)
  | .prefetch => fs ++ [e]

/-- A line newly allocated for a pattern index (R24). -/
def allocatedLine (p : Pin) (fc : Word) (idx : PatternIndex) : Line :=
  addPin p { Line.emptied with state := .filling, index := idx, lastUse := fc }

/-- One allocation of pass 2 (R24, R25). That a line is always found is a law of R25; were none found,
nothing would be allocated. -/
def allocate (p : Pin) (fc : Word) (c : FrameCache) (idx : PatternIndex) : FrameCache :=
  match chooseLine fc c.lines with
  | none => c
  | some n =>
    { lines := c.lines.set n (allocatedLine p fc idx), fills := joinFills ⟨n, classOfPin p⟩ c.fills }

/-- Pass 1 of a pin request: the lines already held are pinned and dated (R24). -/
def pinHeld (p : Pin) (fc : Word) (set : List PatternIndex) (lines : List Line) : List Line :=
  lines.map (fun l =>
    if l.state ≠ .empty ∧ l.index ∈ set then { addPin p l with lastUse := fc } else l)

/-- A pin request, both passes (R24). -/
def pinCache (p : Pin) (fc : Word) (set : List PatternIndex) (c : FrameCache) : FrameCache :=
  let missing := set.filter (fun i => !c.lines.any (holds i))
  missing.foldl (allocate p fc) { c with lines := pinHeld p fc set c.lines }

/-- An owner asks the frame cache to set a pin on a set of indices (R24). -/
def setPins (p : Pin) (set : List PatternIndex) (s : State) : State :=
  s.withCache (pinCache p s.scan.frameCounter set s.cache)

/-- Whether every line that carries the pin is VALID (R37). -/
def resident (p : Pin) (lines : List Line) : Bool :=
  lines.all (fun l => !hasPin p l || decide (l.state = .valid))

/-! ### Removing and moving pins (R26, R28, R30, R31) -/

/-- A FILLING line left with no pin is withdrawn: it becomes EMPTY and keeps only its last-use frame (R22,
R26). DESIGN CHOICE, unsafe: its pattern index is then held as 0 (notes/assumptions/21.md). -/
def withdrawLine (l : Line) : Line :=
  if l.state = .filling ∧ pinned l = false then { Line.emptied with lastUse := l.lastUse } else l

/-- Whether line `n` is FILLING. -/
def isFilling (lines : List Line) (n : Nat) : Bool :=
  match lines[n]? with
  | some l => decide (l.state = .filling)
  | none => false

/-- A fill read under way whose line is no longer FILLING belongs to a fill that has ended (R26, R38). -/
def discardWithdrawn (lines : List Line) : PortCycle → PortCycle
  | .fill n idx w wd => .fill n idx w (wd || !isFilling lines n)
  | p => p

/-- The lines take new pins: FILLING lines left with none are withdrawn, their entries leave the fill
request list, and a read already granted to one of them is discarded (R26). -/
def repin (f : Line → Line) (s : State) : State :=
  let lines := s.cache.lines.map (fun l => withdrawLine (f l))
  (s.withCache { lines := lines, fills := s.cache.fills.filter (fun e => isFilling lines e.line) }).withArb
    { s.arb with port := discardWithdrawn lines s.arb.port }

/-- A pin is removed from every line that carries it (R28, R31). -/
def removePins (p : Pin) (s : State) : State := repin (dropPin p) s

/-- A line's pins at a switch, with the last-use frame of those CURRENT after it (R30). -/
def switchPins (fc : Word) (l : Line) : Line :=
  if l.next then { l with current := true, next := false, lastUse := fc }
  else { l with current := false }

/-- Whether line `n` carries CURRENT. -/
def isCurrent (lines : List Line) (n : Nat) : Bool :=
  match lines[n]? with
  | some l => l.current
  | none => false

/-- PREFETCH entries whose line has gained CURRENT become DEMAND, after the last DEMAND entry, in the order
they had (R33). -/
def promoteFills (lines : List Line) (fs : List FillEntry) : List FillEntry :=
  fs.filter (fun e => e.cls = .demand)
    ++ (fs.filter (fun e => e.cls = .prefetch ∧ isCurrent lines e.line = true)).map
        (fun e => { e with cls := .demand })
    ++ fs.filter (fun e => e.cls = .prefetch ∧ isCurrent lines e.line = false)

/-- The pins move at a switch (R30). -/
def movePins (s : State) : State :=
  let s₁ := repin (switchPins s.scan.frameCounter) s
  s₁.withCache { s₁.cache with fills := promoteFills s₁.cache.lines s₁.cache.fills }

/-- The ages at a frame boundary: the CURRENT lines take the advanced frame counter (R41). -/
def ageLines (s : State) : State :=
  s.withCache { s.cache with
    lines := s.cache.lines.map (fun l =>
      if l.current then { l with lastUse := s.scan.frameCounter } else l) }

/-! ### Fills and host writes -/

/-- The window offset of a word of a pattern record (R34). -/
def patternOffset (idx : PatternIndex) (word : Nat) : Nat :=
  Config.patternBase + 4 * idx.toNat + 2 * word

/-- The line that holds the record follows a host write to word `w` when it has read that word (R40). -/
def followWrite (idx : PatternIndex) (w : Nat) (l : Lanes) (d : Word) (lines : List Line) : List Line :=
  lines.map (fun line =>
    if holds idx line = true ∧ (line.state = .valid ∨ w < line.wordsRead) then placeLanes w l d line
    else line)

end Sys2Proof.Machine
end

