-- ==== Sys2Proof/Machine/QueueOps.lean ====
section
/-! DEFINITION. The event queue's reservation and staging (05_key_event_queue.md). -/

namespace Sys2Proof.Machine

/-- The count: published records not yet consumed, (P − C) mod L (R81). -/
def queueCount (q : EventQueue) : Nat := (q.prod + q.len - q.cons) % q.len

/-- The number of staged events (R81). -/
def staged (s : State) : Nat := s.ws.staging.length

/-- The reservation rule (R82): count + staged ≤ L − 2 and staged ≤ 3. -/
def canReserve (s : State) : Bool :=
  decide (queueCount s.queue + staged s + 2 ≤ s.queue.len ∧ staged s ≤ 3)

/-- The event as staged at this moment (R83). -/
def stagedEvent (e : KeyEvent) (s : State) : StagedEvent :=
  ⟨e, s.queue.nextSeq, s.scan.frameCounter, (s.queue.prod + staged s) % s.queue.len⟩

/-- A granted event is staged (R83). -/
def stage (e : KeyEvent) (s : State) : State :=
  (s.withWs { s.ws with staging := s.ws.staging ++ [stagedEvent e s] }).withQueue
    { s.queue with nextSeq := s.queue.nextSeq + 1 }

/-- The key scanner asks for one reservation (R63, R82): `none` is a refusal, which changes nothing. -/
def reserve (e : KeyEvent) (s : State) : Option State :=
  if canReserve s then some (stage e s) else none

/-- The distance of a consumer value from C, (v − C) mod L (R87). -/
def consumed (q : EventQueue) (v : Nat) : Nat := (v + q.len - q.cons) % q.len

/-- Whether a consumer write is valid (R87). -/
def validConsumer (q : EventQueue) (v : Nat) : Bool :=
  decide (v < q.len ∧ consumed q v ≤ queueCount q)

end Sys2Proof.Machine
end

