-- ==== Sys2Proof/Machine/KeyOps.lean ====
section
/-! DEFINITION. The key scanner (04_key_scanning_and_debounce.md). -/

namespace Sys2Proof.Machine

/-- The key's entry in the key table. -/
def keyAt (s : State) (k : Nat) : Key := s.keys.table.getD k Key.up

/-- The key table with one entry changed. -/
def setKey (k : Nat) (x : Key) (s : State) : State :=
  s.withKeys { s.keys with table := s.keys.table.set k x }

/-- The down count: how many keys are DOWN (R58). -/
def downCount (s : State) : Nat := s.keys.table.countP (fun x => x.down)

/-- The repeat tracker cleared (R72). -/
def clearTracker (s : State) : State :=
  s.withKeys { s.keys with repeatKey := none, framesToRepeat := 0, repeatCount := 0 }

/-- The change of a key fails: the held mark is set (R62). -/
def hold (k : Nat) (s : State) : State := setKey k { keyAt s k with held := true } s

/-- A ready release (R64). -/
def acceptRelease (k : Nat) (s : State) : State :=
  match reserve ⟨.release, k, 0, downCount s - 1⟩ s with
  | none => hold k s
  | some s₁ =>
    let s₂ := setKey k Key.up s₁
    if s₂.keys.repeatKey = some k then clearTracker s₂ else s₂

/-- Jam entry, tried when a press is refused for rollover (R68). -/
def jamEntry (s : State) : State :=
  if s.keys.jammed then s
  else
    match reserve ⟨.jam, 255, 0, downCount s⟩ s with
    | none => s
    | some s₁ => s₁.withKeys { s₁.keys with jammed := true }

/-- A press refused for rollover (R65). -/
def refuseRollover (k : Nat) (s : State) : State :=
  let s₁ := hold k s
  jamEntry (s₁.withKeys { s₁.keys with refusalMark := true })

/-- A ready press below the rollover limit (R66); a granted one is taken by the tracker (R72). -/
def acceptPress (k : Nat) (s : State) : State :=
  match reserve ⟨.press, k, 0, downCount s + 1⟩ s with
  | none => hold k s
  | some s₁ =>
    let s₂ := setKey k ⟨true, 0, false⟩ s₁
    if 0 < s₂.keys.repeatDelay then
      s₂.withKeys { s₂.keys with
        repeatKey := some k, framesToRepeat := s₂.keys.repeatDelay, repeatCount := 0 }
    else s₂

/-- A ready change is tried (R64, R65, R66). -/
def acceptChange (k : Nat) (s : State) : State :=
  if (keyAt s k).down then acceptRelease k s
  else if s.keys.rollover ≤ downCount s then refuseRollover k s
  else acceptPress k s

/-- A disagreeing observation of a key (R62). -/
def disagree (k : Nat) (s : State) : State :=
  if (keyAt s k).held then acceptChange k s
  else
    let c := min ((keyAt s k).count + 1) s.keys.debounce
    let s₁ := setKey k { keyAt s k with count := c } s
    if c < s.keys.debounce then s₁ else acceptChange k s₁

/-- One key of an observation, observed down or up (R60, R61, R62). -/
def observeKey (k : Nat) (down : Bool) (s : State) : State :=
  if down = (keyAt s k).down then setKey k { keyAt s k with count := 0, held := false } s
  else disagree k s

/-- Whether a raw level reads as closed under the sense polarity in force (R60). -/
def closedLevel (s : State) (level : Bool) : Bool := decide (level = s.keys.closedHigh)

/-- The eight keys of a grid in row order (R57, R60). -/
def observeRows (grid : BitVec 4) (levels : BitVec 8) (s : State) : State :=
  (List.range 8).foldl
    (fun t row => observeKey (grid.toNat * 8 + row) (closedLevel t (levels.getLsbD row)) t) s

/-- A column observation (R60): discarded whole while KEY_RESET runs. -/
def observe (grid : BitVec 4) (levels : BitVec 8) (s : State) : State :=
  if s.keys.reset = .idle then observeRows grid levels s else s

/-! ### Frame boundary -/

/-- The jam exit step (R71). -/
def jamExit (s : State) : State :=
  if s.keys.jammed = true ∧ s.keys.refusalMark = false then
    match reserve ⟨.jamClear, 255, 0, downCount s⟩ s with
    | none => s
    | some s₁ => s₁.withKeys { s₁.keys with jammed := false }
  else s

/-- A REPEAT that is due (R73): dropped when there is no room. -/
def repeatEvent (k : Nat) (s : State) : State :=
  let n := min (s.keys.repeatCount + 1) 255
  let s₁ :=
    match reserve ⟨.repeatKey, k, n, downCount s⟩ s with
    | none => s
    | some t => t.withKeys { t.keys with repeatCount := n }
  s₁.withKeys { s₁.keys with framesToRepeat := s₁.keys.repeatInterval }

/-- The repeat step (R73). -/
def repeatStep (s : State) : State :=
  match s.keys.repeatKey with
  | none => s
  | some k =>
    if (keyAt s k).down then
      if s.keys.framesToRepeat - 1 = 0 then repeatEvent k s
      else s.withKeys { s.keys with framesToRepeat := s.keys.framesToRepeat - 1 }
    else s

/-- The key scanner's boundary action (R70). -/
def keyBoundary (s : State) : State :=
  if s.keys.reset = .idle then
    let s₁ := repeatStep (jamExit s)
    s₁.withKeys { s₁.keys with refusalMark := false }
  else s

/-! ### Clearing, KEY_RESET and its drain -/

/-- Candidate counts, held marks, the refusal mark and the tracker cleared (R74, R78). -/
def clearDebounce (ks : KeyScanner) : KeyScanner :=
  { ks with
    table := ks.table.map (fun x => { x with count := 0, held := false }), refusalMark := false,
    repeatKey := none, framesToRepeat := 0, repeatCount := 0 }

/-- The key scanner's panel-reset values: the configuration in force is kept (R79). The number of releases staged is
0 as at line reset, DESIGN CHOICE, unsafe (notes/assumptions/23.md). -/
def keysPanelReset (ks : KeyScanner) : KeyScanner :=
  { KeyScanner.lineReset with
    debounce := ks.debounce, repeatDelay := ks.repeatDelay, repeatInterval := ks.repeatInterval,
    rollover := ks.rollover, closedHigh := ks.closedHigh }

/-- KEY_RESET completes with the number of releases staged (R76). DESIGN CHOICE, unsafe: the number is then held as 0
(notes/assumptions/23.md). -/
def finishKeyReset (s : State) : State :=
  completeTaken .done (toWord s.keys.released)
    (s.withKeys { s.keys with reset := .idle, released := 0 })

/-- The drain has passed key 127: the jam is cleared, then KEY_RESET completes (R75). -/
def drainJam (s : State) : State :=
  if s.keys.jammed then
    match reserve ⟨.jamClear, 255, 0, 0⟩ s with
    | none => s.withKeys { s.keys with reset := .clearingJam }
    | some s₁ => finishKeyReset (s₁.withKeys { s₁.keys with jammed := false })
  else finishKeyReset s

/-- The drain from key `k` with `n` keys left (R75). -/
def drainFrom : Nat → Nat → State → State
  | 0, _, s => drainJam s
  | n + 1, k, s =>
    if (keyAt s k).down then
      match reserve ⟨.release, k, 0, downCount s - 1⟩ s with
      | none => s.withKeys { s.keys with reset := .draining k }
      | some s₁ =>
        let s₂ := setKey k { keyAt s₁ k with down := false } s₁
        drainFrom n (k + 1) (s₂.withKeys { s₂.keys with released := s₂.keys.released + 1 })
    else drainFrom n (k + 1) s

/-- A waiting drain asks again (R75). -/
def askDrain (s : State) : State :=
  match s.keys.reset with
  | .idle => s
  | .draining k => drainFrom (Config.keyCount - k) k s
  | .clearingJam => drainJam s

/-- KEY_RESET is taken: the table is cleared of what it was counting, and the drain begins (R74, R75). -/
def beginKeyReset (s : State) : State :=
  askDrain (s.withKeys { clearDebounce s.keys with reset := .draining 0, released := 0 })

/-- ABORT ends a drain where it stands (R77). DESIGN CHOICE, unsafe: the number of releases staged is then held as 0
(notes/assumptions/23.md). -/
def abortDrain (s : State) : State :=
  s.withKeys { s.keys with reset := .idle, released := 0 }

end Sys2Proof.Machine
end

