-- ==== Sys2Proof/Machine/SlotOps.lean ====
section
/-! DEFINITION. The scan engine's slots (1.3 to 1.7 of 01_scan_engine.md), the start of RUNNING, and the
residency reports of the frame cache. -/

namespace Sys2Proof.Machine

/-- The pattern a grid slot captures: the segments of the VALID line that holds its index, and its level as
at most 15; `none` is "unlit" (R8). -/
def slotPattern (s : State) (r : SlotRecord) : Option Captured :=
  (lookupValid (s.scan.frameBase + r.offset) s.cache.lines).map
    (fun l => ⟨l.segments, min 15 l.level.toNat⟩)

/-- The lit ticks of a slot: on-time × effective level ÷ 15, rounded down; 0 when unlit (R9, R10). -/
def litTicksOf (onTime globalLevel : Nat) : Option Captured → Nat
  | none => 0
  | some c => onTime * min globalLevel c.level / 15

/-- The segment lines of a slot's first lit ticks (R11). -/
def segmentsOf (lit : Nat) : Option Captured → BitVec 24
  | none => 0
  | some c => if lit = 0 then 0 else c.segments

/-- The grid lines with one grid driven (R11). -/
def gridLine (g : BitVec 4) : BitVec 16 := 1 <<< g.toNat

/-- The scan engine at the start of slot `i` with record `r`, whose captured pattern is `cap` (R7, R8, R10,
R11). -/
def slotEngine (e : ScanEngine) (i : Nat) (r : SlotRecord) (cap : Option Captured) : ScanEngine :=
  { e with
    slotIndex := i, phase := .onTime, ticksRemaining := r.onTime, captured := cap,
    litTicks := litTicksOf r.onTime e.globalLevel cap,
    gridLines := match r.grid with | none => 0 | some g => gridLine g,
    segLines := segmentsOf (litTicksOf r.onTime e.globalLevel cap) cap }

/-- Slot `i` of the table in force starts (R8, R9); a dark slot makes no lookup and drives nothing (R12). -/
def startSlot (i : Nat) (s : State) : State :=
  match s.scan.table[i]? with
  | none => s
  | some r =>
    match r.grid with
    | none => s.withScan (slotEngine s.scan i r none)
    | some _ =>
      match slotPattern s r with
      | none => raise .underrun (s.withScan (slotEngine s.scan i r none))
      | some c => s.withScan (slotEngine s.scan i r (some c))

/-- The record of the slot being shown. -/
def currentSlot (s : State) : Option SlotRecord := s.scan.table[s.scan.slotIndex]?

/-- The on-time of the slot being shown. -/
def currentOnTime (s : State) : Nat :=
  match currentSlot s with
  | none => 0
  | some r => r.onTime

/-- The slot's lit ticks run out: the segment lines turn off, the grid stays driven for the rest of the on-time
(R11). Where the lit ticks fill the on-time no tick of it is left, and it ends at this moment too: by ON_TIME_END,
or before the next tick passes (`settleMoment`, notes/assumptions/7.md). -/
def endLit (s : State) : State :=
  s.withScan { s.scan with
    segLines := 0,
    ticksRemaining := min s.scan.ticksRemaining (currentOnTime s - s.scan.litTicks) }

/-- The sense sample of a slot that carries the sense mark (R15). -/
def sampleSlot (levels : BitVec 8) (s : State) : State :=
  match currentSlot s with
  | some ⟨some g, true, _, _⟩ => observe g levels s
  | _ => s

/-- The slot's on-time ends: the sample is taken, the lines turn off, the gap begins (R7, R13, R15). -/
def endOnTime (levels : BitVec 8) (s : State) : State :=
  sampleSlot levels
    (s.withScan { s.scan with
      phase := .gap, ticksRemaining := s.scan.gapTicks, gridLines := 0, segLines := 0,
      senseLines := levels })

/-- The slot that starts next, if the next happening of the engine is a slot start (R7, R16). -/
def nextSlot (s : State) : Option Nat :=
  match s.scan.phase with
  | .onTime => none
  | .boundaryTaken => some 0
  | .gap =>
    if s.scan.slotIndex + 1 < s.scan.table.length then some (s.scan.slotIndex + 1) else none

/-! ### RUNNING and residency -/

/-- The current frame has become resident in STARTING: RUNNING begins, START completes, slot 0 starts (R4,
R107). -/
def beginRunning (s : State) : State :=
  let detail := toWord s.latch.restarts
  let s₁ := (s.withLatch .idle).withScan { s.scan with
    state := .running, frameCounter := 0, globalLevel := s.scan.pendingLevel, slotIndex := 0,
    phase := .boundaryTaken, ticksRemaining := 0 }
  startSlot 0 (completeTaken .done detail (publish .scanState s₁))

/-- The warm-up's condition: STARTING with a table in force and every CURRENT line VALID (R4, R37). -/
def currentResident (s : State) : Bool :=
  decide (s.scan.state = .starting) && !s.scan.table.isEmpty && resident .current s.cache.lines

/-- The cache reports the current frame resident, if it is (R37). -/
def reportCurrent (s : State) : State := if currentResident s then beginRunning s else s

/-- A next frame is being prepared and every NEXT line is VALID (R37). -/
def nextResident (s : State) : Bool :=
  decide (s.switch.state = .preparing) && resident .next s.cache.lines

/-- The cache reports the next frame resident, if it is: the record becomes READY (R37, R48). -/
def reportNext (s : State) : State :=
  if nextResident s then s.withSwitch { s.switch with state := .ready } else s

/-! ### Fill reads (R35, R36, R38) -/

/-- A fill read of word 0 ends: segments 0 to 15 are placed into a line still FILLING with words read 0
(R35). -/
def readWord0 (n : Nat) (idx : PatternIndex) (s : State) : State :=
  let s₁ := s.withArb { s.arb with port := .free }
  match s.cache.lines[n]? with
  | none => s₁
  | some l =>
    if l.state = .filling ∧ l.wordsRead = 0 then
      s₁.withCache { s.cache with
        lines := s.cache.lines.set n
          { placeLanes 0 bothLanes (windowWord s (patternOffset idx 0)) l with wordsRead := 1 } }
    else s₁

/-- The line a fill read of word 1 makes VALID (R36). -/
def filledLine (w : Word) (l : Line) : Line :=
  { placeLanes 1 bothLanes w l with wordsRead := 2, state := .valid }

/-- A fill read of word 1 ends, before any report: the line still FILLING with words read 1 becomes VALID
and its entry leaves the fill request list (R36). -/
def placeWord1 (n : Nat) (idx : PatternIndex) (s : State) : State :=
  let s₁ := s.withArb { s.arb with port := .free }
  match s.cache.lines[n]? with
  | none => s₁
  | some l =>
    if l.state = .filling ∧ l.wordsRead = 1 then
      s₁.withCache
        { lines := s.cache.lines.set n (filledLine (windowWord s (patternOffset idx 1)) l),
          fills := s.cache.fills.filter (fun e => e.line ≠ n) }
    else s₁

/-- Whether line `n` carries a pin. -/
def lineHasPin (p : Pin) (lines : List Line) (n : Nat) : Bool :=
  match lines[n]? with
  | some l => hasPin p l
  | none => false

/-- A fill read of word 1 ends, and the residency conditions of the pins the line carries are reported
(R36, R37). -/
def readWord1 (n : Nat) (idx : PatternIndex) (s : State) : State :=
  let s₁ := placeWord1 n idx s
  let s₂ := if lineHasPin .next s.cache.lines n then reportNext s₁ else s₁
  if lineHasPin .current s.cache.lines n then reportCurrent s₂ else s₂

end Sys2Proof.Machine
end

