-- ==== Sys2Proof/Machine/SwitchOps.lean ====
section
/-! DEFINITION. The frame switch (03_frame_switching.md) and the frame boundary (R16). -/

namespace Sys2Proof.Machine

/-- Preparation of a next frame begins (R47): NEXT pins are set, and the record is READY at once when every
pattern is already resident. -/
def beginPreparation (table : List SlotRecord) (base : PatternIndex) (s : State) : State :=
  reportNext (setPins .next (indexSet table base)
    (s.withSwitch ⟨.preparing, table, base, 0, s.switch.timeout⟩))

/-- The switch of R50: table, base and pins move, the record becomes NONE, the cells are published, the
running command completes. -/
def switchFrames (r : Result) (waited : Nat) (s : State) : State :=
  let s₁ := s.withScan { s.scan with table := s.switch.nextTable, frameBase := s.switch.nextBase }
  let s₂ := (movePins s₁).withSwitch (.noNext s.switch.timeout)
  let s₃ := publish .shownBase s₂
  let s₄ := if s.switch.nextTable.length = s.scan.table.length then s₃ else publish .scanState s₃
  completeTaken r (toWord waited) s₄

/-- The frame switch's boundary action (R49). -/
def switchBoundary (s : State) : State :=
  match s.switch.state with
  | .none => s
  | .preparing =>
    if s.switch.framesWaited + 1 = s.switch.timeout then switchFrames .late (s.switch.framesWaited + 1) s
    else s.withSwitch { s.switch with framesWaited := s.switch.framesWaited + 1 }
  | .ready => switchFrames .done (s.switch.framesWaited + 1) s

/-- The frame boundary (R16): the counter advances, the pending level takes force, and the cache, the
frame switch and the key scanner take their actions. The manual allows any order of the three and says the
result is the same (R41, R49, R70). -/
def takeBoundary (s : State) : State :=
  keyBoundary (switchBoundary (ageLines (s.withScan { s.scan with
    frameCounter := s.scan.frameCounter + 1, globalLevel := s.scan.pendingLevel, slotIndex := 0,
    phase := .boundaryTaken, ticksRemaining := 0 })))

/-- ABORT ends a preparation (R53): record NONE, NEXT pins removed. -/
def abortPreparation (s : State) : State :=
  removePins .next (s.withSwitch (.noNext s.switch.timeout))

/-- One scan tick of a slot's phase passes (1.3 of 01_scan_engine.md, R7, R11): the ticks remaining count down,
and the segment lines turn off when the lit ticks have passed. The last tick of a phase ends it: the on-time with
the sense sample, the gap with the next slot's start, after the frame boundary's actions where it is the last
slot's gap. Before slot 0 has started no tick passes. -/
def passTick (s : State) : State :=
  match s.scan.phase with
  | .boundaryTaken => s
  | .onTime =>
    if s.scan.ticksRemaining ≤ 1 then endOnTime s.scan.senseLines s
    else
      s.withScan { s.scan with
        ticksRemaining := s.scan.ticksRemaining - 1,
        segLines :=
          if s.scan.litTicks ≤ currentOnTime s - (s.scan.ticksRemaining - 1) then 0
          else s.scan.segLines }
  | .gap =>
    if s.scan.ticksRemaining ≤ 1 then
      match nextSlot s with
      | some i => startSlot i s
      | none => startSlot 0 (takeBoundary s)
    else s.withScan { s.scan with ticksRemaining := s.scan.ticksRemaining - 1 }

/-- What the rows of the scan engine have left to come about at this moment, before any further tick: a slot 0 that
a frame boundary has left to start starts (R7), and an on-time whose every tick has passed, lit ticks that fill it
having run out (R11), ends. -/
def settleMoment (s : State) : State :=
  let s₁ := if s.scan.phase = .boundaryTaken then startSlot 0 s else s
  if s₁.scan.phase = .onTime ∧ s₁.scan.ticksRemaining = 0 then endOnTime s₁.scan.senseLines s₁ else s₁

/-- One scan tick passes in RUNNING; elsewhere the engine counts none. What is left of the moment comes about first,
so that a slot and a frame last the ticks R7 and R11 give them. This is what a step does on an empty queue
(notes/assumptions/7.md). -/
def scanTick (s : State) : State :=
  if s.scan.state = .running then passTick (settleMoment s) else s

end Sys2Proof.Machine
end

