-- ==== Sys2Proof/Machine/LatchOps.lean ====
section
/-! DEFINITION. The table latch: its reads, torn reads, checks, and how the latched values take force
(06_configuration_and_table_latching.md). -/

namespace Sys2Proof.Machine

/-! ### Reads (R97, R98) -/

/-- The window offset of the `j`-th scan record word in read order: words +0, +2, +4 of each record. -/
def recordWordOffset (j : Nat) : Nat := Config.tableBase + 8 * (j / 3) + 2 * (j % 3)

/-- The next word in the read order after the words read (R97). -/
def nextReadOffset (l : TableLatch) : Nat :=
  match l.purpose with
  | .start =>
    if l.wordsRead.length < Config.configCells then Config.configBase + 2 * l.wordsRead.length
    else recordWordOffset (l.wordsRead.length - Config.configCells)
  | .reload => recordWordOffset l.wordsRead.length

/-- The sense mark of a record as read (R154). -/
def senseMark (r : RawRecord) : Bool := r.flags.getLsbD 0

/-- The last mark of a record as read (R154). -/
def lastMark (r : RawRecord) : Bool := r.flags.getLsbD 1

/-- The last element of a list changed. -/
def modifyLast (f : RawRecord → RawRecord) : List RawRecord → List RawRecord
  | [] => []
  | [x] => [f x]
  | x :: xs => x :: modifyLast f xs

/-- A scan-record word placed into the pending table (R98). DESIGN CHOICE, unsafe: until words +2 and +4 are read
the record's pattern offset and on-time are held as 0 (notes/assumptions/22.md). -/
def placeRecordWord (off : Nat) (w : Word) (t : List RawRecord) : List RawRecord :=
  if off % 8 = 0 then t ++ [⟨lowByte w, highByte w, 0, 0⟩]
  else if off % 8 = 2 then modifyLast (fun r => { r with offset := w }) t
  else modifyLast (fun r => { r with onTime := w }) t

/-- The latch with a word read: placed, and its offset added to the words read (R97). -/
def latchWord (off : Nat) (w : Word) (l : TableLatch) : TableLatch :=
  if off < Config.tableBase then
    { l with wordsRead := l.wordsRead ++ [off], image := l.image ++ [w] }
  else { l with wordsRead := l.wordsRead ++ [off], table := placeRecordWord off w l.table }

/-- Whether the word just read completes the read order: the third word of a record that carries the last
mark, or of record 23 (R97). -/
def readsComplete (off : Nat) (l : TableLatch) : Bool :=
  decide (Config.tableBase ≤ off) && decide (off % 8 = 4) &&
    (decide (l.table.length = Config.maxRecords) ||
      match l.table.getLast? with
      | some r => lastMark r
      | none => false)

/-! ### Checks (R102, R103) -/

/-- The accepted values of the configuration cells, in read order (R102). -/
def configRanges : List (Nat × Nat) :=
  [(1, 255), (1, 15), (0, 15), (1, 7), (0, 255), (1, 255), (2, 8), (0, 1), (4, 32), (1, 8), (1, 255),
   (0, 511)]

/-- The window offset of the first configuration word out of its range, from offset `off` on (R102). A word
not read, which cannot be when the checks are made, counts as out of range. -/
def checkWords : List (Nat × Nat) → List Word → Nat → Option Nat
  | [], _, _ => none
  | _ :: _, [], off => some off
  | (lo, hi) :: rs, w :: ws, off =>
    if lo ≤ w.toNat ∧ w.toNat ≤ hi then checkWords rs ws (off + 2) else some off

/-- The check of the config image (R102). -/
def checkConfig (image : List Word) : Option Nat := checkWords configRanges image Config.configBase

/-- The check of one record at window offset `off`; `grids` are the sense grids of earlier records (R103). -/
def checkRecord (r : RawRecord) (grids : List Byte) (off : Nat) : Option Nat :=
  if 16 ≤ r.grid.toNat ∧ r.grid.toNat ≤ 254 then some off
  else if r.grid.toNat = 255 ∧ senseMark r = true then some off
  else if senseMark r = true ∧ r.grid ∈ grids then some off
  else if 512 ≤ r.offset.toNat then some (off + 2)
  else if r.onTime.toNat = 0 ∨ 256 ≤ r.onTime.toNat then some (off + 4)
  else none

/-- The check of the records from offset `off` on (R103). -/
def checkRecordsFrom : List RawRecord → List Byte → Nat → Option Nat
  | [], _, _ => none
  | r :: rs, grids, off =>
    match checkRecord r grids off with
    | some bad => some bad
    | none => checkRecordsFrom rs (if senseMark r then r.grid :: grids else grids) (off + 8)

/-- The check of the pending table (R103). -/
def checkTable (t : List RawRecord) : Option Nat := checkRecordsFrom t [] Config.tableBase

/-- A checked record as a slot record (R98). -/
def slotRecord (r : RawRecord) : SlotRecord :=
  { grid := if r.grid.toNat < 16 then some (r.grid.setWidth 4) else none,
    sense := senseMark r, offset := r.offset.setWidth 9, onTime := r.onTime.toNat }

/-- The `k`-th value of the config image, in read order. -/
def imageValue (image : List Word) (k : Nat) : Nat := (image.getD k 0).toNat

/-! ### Beginning, failing, succeeding -/

/-- A latch begins (R96). -/
def beginLatch (p : Purpose) (s : State) : State :=
  s.withLatch ⟨.reading, p, 0, [], [], []⟩

/-- The latch ends with CONFIG_ERROR or TABLE_UNSTABLE (R104): for START the scan state becomes OFF (R3) and,
as in every state but RUNNING, all lines are off (R14). -/
def latchFails (r : Result) (off : Nat) (s : State) : State :=
  let s₁ := s.withLatch .idle
  let s₂ :=
    match s.latch.purpose with
    | .start => publish .scanState (s₁.withScan { s₁.scan with state := .off, gridLines := 0, segLines := 0 })
    | .reload => s₁
  completeTaken r (toWord off) s₂

/-- The event queue accepts the latched length: a different one empties the ring (R91). -/
def acceptLength (n : Nat) (s : State) : State :=
  if n = s.queue.len then s.withQueue { s.queue with acceptance := none }
  else
    publish .consumer (publish .producer
      (s.withQueue { s.queue with len := n, prod := 0, cons := 0, acceptance := none }))

/-- The latched values in the scan engine (R3, R105). -/
def latchedScan (e : ScanEngine) (image : List Word) (t : List RawRecord) : ScanEngine :=
  { e with
    table := t.map slotRecord, frameBase := BitVec.ofNat 9 (imageValue image 11),
    tickDivide := imageValue image 0, gapTicks := imageValue image 1,
    pendingLevel := imageValue image 2 }

/-- The latched values in the key scanner (R59, R105). -/
def latchedKeys (ks : KeyScanner) (image : List Word) : KeyScanner :=
  { ks with
    debounce := imageValue image 3, repeatDelay := imageValue image 4,
    repeatInterval := imageValue image 5, rollover := imageValue image 6,
    closedHigh := decide (imageValue image 7 = 1) }

/-- Every latched value takes force in its block, the latch WARMING with its image and table empty (R105). -/
def takeForce (image : List Word) (t : List RawRecord) (s : State) : State :=
  ((((s.withScan (latchedScan s.scan image t)).withKeys (latchedKeys s.keys image)).withSwitch
      { s.switch with timeout := imageValue image 10 }).withArb
      { s.arb with starveLimit := imageValue image 9 }).withLatch
      { s.latch with progress := .warming, wordsRead := [], image := [], table := [] }

/-- The START latch succeeds (R105), in the happening in which the queue accepts the length `n`, and the
warm-up follows (R107). -/
def latchSucceeds (n : Nat) (s : State) : State :=
  let s₁ := acceptLength n s
  let s₂ := publish .shownBase (publish .scanState (takeForce s.latch.image s.latch.table s₁))
  reportCurrent (setPins .current (indexSet s₂.scan.table s₂.scan.frameBase) s₂)

/-- The checks of a START latch pass: HOLDING, and the length is handed to the event queue, which accepts
it at once or waits for its staging list to empty (R91, R105). -/
def holdLength (s : State) : State :=
  let s₁ := s.withLatch { s.latch with progress := .holding }
  let n := imageValue s.latch.image 8
  if n = s.queue.len ∨ s.ws.staging = [] then latchSucceeds n s₁
  else s₁.withQueue { s₁.queue with acceptance := some n }

/-- The checks of a RELOAD latch pass: the pending table is handed to the frame switch (R106). -/
def handOverTable (s : State) : State :=
  beginPreparation (s.latch.table.map slotRecord) s.scan.frameBase (s.withLatch .idle)

/-- The checks made in the happening in which the last read completes (6.4). -/
def checkLatched (s : State) : State :=
  match s.latch.purpose with
  | .start =>
    match checkConfig s.latch.image with
    | some off => latchFails .configError off s
    | none =>
      match checkTable s.latch.table with
      | some off => latchFails .configError off s
      | none => holdLength s
  | .reload =>
    match checkTable s.latch.table with
    | some off => latchFails .configError off s
    | none => handOverTable s

/-- A waiting length acceptance is settled when the staging list is empty (R91). -/
def settleLength (s : State) : State :=
  match s.queue.acceptance with
  | some n => if s.ws.staging = [] ∧ s.latch.progress = .holding then latchSucceeds n s else s
  | none => s

/-! ### Torn reads (R99, R100) -/

/-- The latch begins again from its first read (R100). -/
def restartLatch (l : TableLatch) : TableLatch :=
  { l with restarts := l.restarts + 1, wordsRead := [], image := [], table := [] }

/-- A host write to a watched word: a torn read if the word has been read (R99, R100). -/
def watchWrite (off : Nat) (s : State) : State :=
  if s.latch.progress = .reading ∧ off ∈ s.latch.wordsRead then
    if s.latch.restarts < 3 then s.withLatch (restartLatch s.latch)
    else latchFails .tableUnstable off s
  else s

/-- A latch read ends (R97, R153): the word memory holds is placed, and when it completes the read order the
checks are made. A word that belongs to no latch is discarded (R153). -/
def endLatchRead (off : Nat) (s : State) : State :=
  let s₁ := s.withArb { s.arb with port := .free }
  if s.latch.progress = .reading then
    let l := latchWord off (windowWord s off) s.latch
    if readsComplete off l then checkLatched (s₁.withLatch l) else s₁.withLatch l
  else s₁

/-- ABORT ends a running START (R5, R108): OFF, table none, all lines off. -/
def abortStart (s : State) : State :=
  let s₁ :=
    if s.latch.progress = .warming then removePins .current s
    else s.withQueue { s.queue with acceptance := none }
  let s₂ := (s₁.withLatch .idle).withScan
    { s₁.scan with state := .off, table := [], gridLines := 0, segLines := 0 }
  publish .scanState s₂

end Sys2Proof.Machine
end

