-- ==== Sys2Proof/Machine/StageOps.lean ====
section
/-! DEFINITION. The write stage's writes and what their ends hand to the owners
(09_published_cells_and_the_write_stage.md). -/

namespace Sys2Proof.Machine

/-- The code of a key event kind in a record (R156). -/
def keyEventCode : KeyEventKind → Byte
  | .press => 1
  | .release => 2
  | .repeatKey => 3
  | .jam => 4
  | .jamClear => 5

/-- Word 0 to 3 of an event record (R156). -/
def recordWord (e : StagedEvent) (k : Nat) : Word :=
  if k = 0 then joinBytes (BitVec.ofNat 8 e.event.key) (keyEventCode e.event.kind)
  else if k = 1 then joinBytes (BitVec.ofNat 8 e.event.repeatCount) e.sequence
  else if k = 2 then e.stamp
  else joinBytes 0 (BitVec.ofNat 8 e.event.downAfter)

/-- What the write stage's request writes, settled at the grant (R137): the head of the cell update list,
otherwise the next word of the head staged event's record. -/
def nextWrite (s : State) : Option (WriteTarget × Word) :=
  match s.ws.updates with
  | ⟨c, .word v⟩ :: _ => some (.cell c, v)
  | ⟨_, .status r k⟩ :: _ => some (.status k, statusWord r k)
  | [] =>
    match s.ws.staging with
    | e :: _ => some (.record e.position s.ws.recordProgress, recordWord e s.ws.recordProgress)
    | [] => none

/-- The status record's entry with the number of its words written (R138). -/
def countStatusWord (k : Nat) (us : List Entry) : List Entry :=
  us.map (fun e =>
    match e with
    | ⟨.statusRecord, .status r _⟩ => ⟨.statusRecord, .status r (k + 1)⟩
    | e => e)

/-- The clearing write of the command cell has been made: COMPLETING ends (R119). -/
def endCompleting (s : State) : State :=
  let s₁ := s.withCmd { s.cmd with unit := .idle, cellValue := 0, taken := none }
  if s.cmd.announce then raise .commandDone s₁ else s₁

/-- The producer cell has been written: QUEUE_DATA, if a completion waits to be announced (R85). -/
def producerWritten (s : State) : State :=
  if s.queue.announce then raise .queueData (s.withQueue { s.queue with announce := false }) else s

/-- Whether FLUSH_QUEUE is the running command (R89). -/
def flushRuns (s : State) : Bool := decide (s.cmd.unit = .busy ∧ s.cmd.taken = some 5)

/-- The consumer cell has been written: FLUSH_QUEUE completes, if it runs (R89). -/
def consumerWritten (s : State) : State := if flushRuns s then completeTaken .done 0 s else s

/-- What the end of a cell's write hands to its owner, its entry having left the list (R138). -/
def cellWritten : Cell → State → State
  | .command, s => endCompleting s
  | .producer, s => producerWritten s
  | .consumer, s => consumerWritten s
  | .statusRecord, s | .pending, s | .shownBase, s | .scanState, s => s

/-- P advances over the record just completed, whose event leaves the staging list (R85, R139). -/
def advanceProducer (s : State) : State :=
  publish .producer
    ((s.withWs { s.ws with staging := s.ws.staging.tail, recordProgress := 0 }).withQueue
      { s.queue with prod := (s.queue.prod + 1) % s.queue.len, announce := true })

/-- The head staged event's record is complete (R85); a waiting length acceptance is settled when the list
has become empty (R91), and a waiting drain asks again (R75). -/
def completeRecord (s : State) : State := askDrain (settleLength (advanceProducer s))

/-- Memory with the write of a target made, both lanes (R137, R153). -/
def storeTarget (t : WriteTarget) (d : Word) (s : State) : State :=
  s.withMem (putLanes s.mem (windowAddr s (targetOffset t)) bothLanes d)

/-- A write stage word write ends (R138). -/
def endWrite (t : WriteTarget) (d : Word) (replaced : Bool) (s : State) : State :=
  let s₁ := storeTarget t d (s.withArb { s.arb with port := .free })
  match t with
  | .cell c =>
    if replaced then s₁
    else cellWritten c (s₁.withWs { s₁.ws with updates := dropEntry c s₁.ws.updates })
  | .status k =>
    if k < 3 then s₁.withWs { s₁.ws with updates := countStatusWord k s₁.ws.updates }
    else s₁.withWs { s₁.ws with updates := dropEntry .statusRecord s₁.ws.updates }
  | .record _ k =>
    if k < 3 then s₁.withWs { s₁.ws with recordProgress := k + 1 } else completeRecord s₁

end Sys2Proof.Machine
end

