-- ==== Sys2Proof/Machine/CommandOps.lean ====
section
/-! DEFINITION. The commands the command unit takes and how ABORT ends them (07_command_unit.md). -/

namespace Sys2Proof.Machine

/-- START (R3, R96, R118). -/
def runStart (s : State) : State :=
  match s.scan.state with
  | .off => beginLatch .start (publish .scanState (s.withScan { s.scan with state := .starting }))
  | .starting | .running => completeTaken .refusedState 0 s

/-- The scan engine and key scanner stopped, CURRENT pins removed (R18, R28, R78). -/
def stopPanel (s : State) : State :=
  let s₁ := (s.withScan { s.scan with state := .off, table := [], gridLines := 0, segLines := 0 }).withKeys
    (clearDebounce s.keys)
  publish .scanState (removePins .current s₁)

/-- STOP (R18, R118). -/
def runStop (s : State) : State :=
  match s.scan.state with
  | .running => completeTaken .done 0 (stopPanel s)
  | .off | .starting => completeTaken .refusedState 0 s

/-- FLIP (R45, R118): its argument is the command argument. -/
def runFlip (s : State) : State :=
  match s.scan.state with
  | .running =>
    if 512 ≤ s.cmd.argument.toNat then completeTaken .badArgument 0 s
    else beginPreparation s.scan.table (s.cmd.argument.setWidth 9) s
  | .off | .starting => completeTaken .refusedState 0 s

/-- RELOAD (R46, R96, R118). -/
def runReload (s : State) : State :=
  match s.scan.state with
  | .running => beginLatch .reload s
  | .off | .starting => completeTaken .refusedState 0 s

/-- FLUSH_QUEUE (R89): C becomes P and the consumer cell is published. -/
def runFlush (s : State) : State :=
  publish .consumer (s.withQueue { s.queue with cons := s.queue.prod })

/-- KEY_RESET (R74, R75). -/
def runKeyReset (s : State) : State := beginKeyReset s

/-- The scan engine at PANEL_RESET (R20): tick divide and gap ticks are kept. -/
def scanPanelReset (e : ScanEngine) : ScanEngine :=
  { e with
    state := .off, table := [], frameBase := 0, frameCounter := 0, globalLevel := 15,
    pendingLevel := 15, gridLines := 0, segLines := 0 }

/-- The event queue at PANEL_RESET (R92): L is kept. -/
def queuePanelReset (q : EventQueue) : EventQueue :=
  { q with prod := 0, cons := 0, nextSeq := 0, acceptance := none, announce := false }

/-- Every block takes its panel-reset values in one happening (R123). -/
def resetPanel (s : State) : State :=
  { s with
    scan := scanPanelReset s.scan,
    cache := .lineReset,
    switch := .noNext s.switch.timeout,
    keys := keysPanelReset s.keys,
    queue := queuePanelReset s.queue,
    latch := .idle,
    ws := { s.ws with staging := [], recordProgress := 0 },
    events := withPendingSet s.events 0,
    arb := { s.arb with port := discardWithdrawn [] s.arb.port } }

/-- The re-publication of R124, in its order. -/
def republish (s : State) : State :=
  publish .pending (publish .consumer (publish .producer (publish .scanState (publish .shownBase s))))

/-- PANEL_RESET (R123, R124). -/
def runPanelReset (s : State) : State := completeTaken .done 0 (republish (resetPanel s))

/-- A command taken is handed to its owner (R118). -/
def runCommand (code : Word) (s : State) : State :=
  if code = 1 then runStart s
  else if code = 2 then runStop s
  else if code = 3 then runFlip s
  else if code = 4 then runReload s
  else if code = 5 then runFlush s
  else if code = 6 then runKeyReset s
  else if code = 7 then runPanelReset s
  else if code = 8 then completeTaken .nothingToAbort 0 s
  else completeTaken .unknown 0 s

/-- A non-zero value is taken as a command (R113). -/
def takeCommand (code : Word) (s : State) : State :=
  runCommand code (s.withCmd { s.cmd with
    unit := .busy, taken := some code, cellValue := code, argument := s.cmd.argCopy })

/-- The running command is ended by its owner (R121). -/
def endRunning (s : State) : State :=
  if s.cmd.taken = some 1 then abortStart s
  else if s.cmd.taken = some 3 ∨ s.cmd.taken = some 4 then
    if s.latch.progress = .reading then s.withLatch .idle else abortPreparation s
  else if s.cmd.taken = some 6 then abortDrain s
  else s

/-- The ABORT path (R121): one completion, under ABORT's code, with the ended command as its detail. -/
def abortRunning (s : State) : State :=
  complete 8 .done (s.cmd.taken.getD 0) (endRunning (s.withCmd { s.cmd with cellValue := 8 }))

/-! ### The command cell (R112 to R115) -/

/-- The resulting value of a command cell write (R112). -/
def resultingValue (l : Lanes) (d : Word) (s : State) : Word := mergeLanes l d s.cmd.cellValue

/-- A rewritten write: memory receives the cell value in the written lanes; COLLISION is raised if asked
(R114, R115). -/
def refuseWrite (a : Nat) (l : Lanes) (collides : Bool) (s : State) : State :=
  let s₁ := storeHost a l s.cmd.cellValue s
  if collides then raise .collision s₁ else s₁

/-- A host write of the command cell, by the command unit's state (R113, R114, R115). -/
def writeCommandCell (a : Nat) (l : Lanes) (d : Word) (s : State) : State :=
  match s.cmd.unit with
  | .idle =>
    if resultingValue l d s = 0 then storeHost a l d s
    else takeCommand (resultingValue l d s) (storeHost a l d s)
  | .busy =>
    if resultingValue l d s = 8 then abortRunning (storeHost a l d s)
    else refuseWrite a l (!isZeroWrite l d) s
  | .completing => refuseWrite a l (!isZeroWrite l d && decide (resultingValue l d s ≠ 8)) s

end Sys2Proof.Machine
end

