-- ==== Sys2Proof/Machine/PortOps.lean ====
section
/-! DEFINITION. Host cycles at the memory port, the hand-off of host writes, and the arbiter
(10_pass_through_and_the_memory_port.md). -/

namespace Sys2Proof.Machine

/-! ### Host writes taken at the memory port (R146, R147) -/

/-- A write to a published word carries the part's current value (R140). -/
def writePublished (off a : Nat) (l : Lanes) (s : State) : State :=
  storeHost a l (publishedWord s off) s

/-- The argument copy takes the written lanes (R117). -/
def writeArgument (a : Nat) (l : Lanes) (d : Word) (s : State) : State :=
  storeHost a l d (s.withCmd { s.cmd with argCopy := mergeLanes l d s.cmd.argCopy })

/-- A write of the pending cell removes the kinds it names; memory receives the resulting set (R129). -/
def writePending (a : Nat) (l : Lanes) (d : Word) (s : State) : State :=
  let s₁ := s.withEvents (withPendingSet s.events (clearedBy l d s.events.pendingSet))
  storeHost a l (pendingWord s₁) (replaceWaiting .pending (.word (pendingWord s₁)) s₁)

/-- A write of the enable cell with the low lane replaces the enable set (R131). -/
def writeEnable (a : Nat) (l : Lanes) (d : Word) (s : State) : State :=
  storeHost a l d
    (if l.low then s.withEvents (withEnableSet s.events (kindsOfByte (lowByte d))) else s)

/-- A write of the consumer cell is judged against L and the count (R87). -/
def writeConsumer (a : Nat) (l : Lanes) (d : Word) (s : State) : State :=
  let v := mergeLanes l d (toWord s.queue.cons)
  if validConsumer s.queue v.toNat then
    askDrain (replaceWaiting .consumer (.word v)
      (storeHost a l d (s.withQueue { s.queue with cons := v.toNat })))
  else raise .queueError (storeHost a l (toWord s.queue.cons) s)

/-- A write of the global level cell sets the pending level (R17) and is watched by a START latch (R99). -/
def writeGlobalLevel (a : Nat) (l : Lanes) (d : Word) (s : State) : State :=
  let s₁ :=
    match levelOfWrite l d with
    | some v => s.withScan { s.scan with pendingLevel := v }
    | none => s
  let s₂ := storeHost a l d s₁
  if readingPurpose s = some .start then watchWrite 0x024 s₂ else s₂

/-- A write of a watched word reaches memory and is checked for a torn read (R99). -/
def writeWatched (off a : Nat) (l : Lanes) (d : Word) (s : State) : State :=
  watchWrite off (storeHost a l d s)

/-- A write into the pattern area reaches memory and is followed by the frame cache (R39, R40). -/
def writePattern (off a : Nat) (l : Lanes) (d : Word) (s : State) : State :=
  let rel := off - Config.patternBase
  storeHost a l d (s.withCache { s.cache with
    lines := followWrite (BitVec.ofNat 9 (rel / 4)) (rel % 4 / 2) l d s.cache.lines })

/-- A host write is taken at the memory port and handed to its owners (R146, R147). -/
def takeWrite (a : Nat) (l : Lanes) (d : Word) (s : State) : State :=
  match destination s a l with
  | .plain => storeHost a l d s
  | .command => writeCommandCell a l d s
  | .argument => writeArgument a l d s
  | .published off => writePublished off a l s
  | .pendingCell => writePending a l d s
  | .enableCell => writeEnable a l d s
  | .consumerCell => writeConsumer a l d s
  | .globalLevel => writeGlobalLevel a l d s
  | .watched off => writeWatched off a l d s
  | .pattern off => writePattern off a l d s

/-- A host read returns what memory holds in the lanes it enabled (R145). -/
def takeRead (a : Nat) (l : Lanes) (s : State) : State :=
  s.withPass { s.pass with
    hostData := ⟨if l.low then some (byteAt s.mem (wordAddr a)) else none,
                 if l.high then some (byteAt s.mem (wordAddr a + 1)) else none⟩ }

/-- A granted host cycle is made (R145). -/
def takeCycle (c : HostCycle) (s : State) : State :=
  match c with
  | .read a l => takeRead a l s
  | .write a l d => takeWrite a l d s

/-- A host cycle made while RESET is held, or at its assertion: as presented, handed to no block (R148). -/
def makeUnseen (c : HostCycle) (s : State) : State :=
  match c with
  | .read a l => takeRead a l s
  | .write a l d => storeHost a l d s

/-! ### The arbiter (R150, R151) -/

/-- Whether the fill engine's request waits under a class: that of the fill request list's head (R34). -/
def fillWaits (cls : FillClass) (s : State) : Bool :=
  match s.cache.fills with
  | e :: _ => decide (e.cls = cls)
  | [] => false

/-- Whether the write stage's request waits (R137). -/
def writeWaits (s : State) : Bool := !s.ws.updates.isEmpty || !s.ws.staging.isEmpty

/-- Whether the table latch's request waits (R97). -/
def latchWaits (s : State) : Bool := decide (s.latch.progress = .reading)

/-- The first waiting part class in the order DEMAND, WRITE, LATCH, PREFETCH (R151). -/
def firstPart (s : State) : Option PartClass :=
  if fillWaits .demand s then some .demand
  else if writeWaits s then some .write
  else if latchWaits s then some .latch
  else if fillWaits .prefetch s then some .prefetch
  else none

/-- Whether the arbiter can decide: RESET is not held and no memory cycle is under way (R148, R151). -/
def canDecide (s : State) : Bool := !s.pass.resetHeld && decide (s.arb.port = .free)

/-- The waiting host cycle, if the decision of this moment grants HOST (R151). -/
def hostGrant (s : State) : Option HostCycle :=
  if canDecide s && ((firstPart s).isNone || decide (s.arb.starveCounter < s.arb.starveLimit)) then
    s.pass.waiting
  else none

/-- HOST is granted: WAIT is released, and the starve counter rises if a part class waits (R145, R151). -/
def grantHost (s : State) : State :=
  (s.withPass { s.pass with waiting := none, waitLine := false }).withArb
    { s.arb with
      starveCounter :=
        if (firstPart s).isSome then s.arb.starveCounter + 1 else s.arb.starveCounter }

/-- The fill read granted: the next word of the head entry's record (R34). -/
def fillCycle (s : State) : PortCycle :=
  match s.cache.fills with
  | [] => .free
  | e :: _ =>
    match s.cache.lines[e.line]? with
    | some l => .fill e.line l.index l.wordsRead false
    | none => .free

/-- The memory cycle a granted part class makes, settled at the grant (R34, R97, R137). -/
def partCycle (p : PartClass) (s : State) : PortCycle :=
  match p with
  | .demand | .prefetch => fillCycle s
  | .latch => .latch (nextReadOffset s.latch)
  | .write =>
    match nextWrite s with
    | some (t, d) => .write t d false
    | none => .free

/-- A part class is granted: its cycle begins and the starve counter returns to 0 (R151). -/
def grantPart (p : PartClass) (s : State) : State :=
  s.withArb { s.arb with starveCounter := 0, port := partCycle p s }

/-- A decision of the arbiter (R151). A granted host cycle is taken and made in the same happening (R145). -/
def decidePort (s : State) : State :=
  match hostGrant s with
  | some c => takeCycle c (grantHost s)
  | none =>
    if canDecide s then
      match firstPart s with
      | some p => grantPart p s
      | none => s
    else s

/-- A row of the table that is the taking of one kind of host write: when the arbiter's decision grants a
waiting host write of that kind, the write is taken; in any other state the happening does not come about
and nothing changes (notes/assumptions/4.md, notes/assumptions/5.md). -/
def takeRow (kind : Nat → Lanes → Word → State → Bool) (s : State) : State :=
  match hostGrant s with
  | some (.write a l d) => if kind a l d s then takeWrite a l d (grantHost s) else s
  | _ => s

end Sys2Proof.Machine
end

