-- ==== Sys2Proof/Machine/CellWrites.lean ====
section
/-! DEFINITION. The rows that take a host write to a cell or a region of the window, other than the commands
(R146). Each takes the waiting host write when the arbiter grants it and it is of the row's kind. -/

namespace Sys2Proof.Machine

/-- A write handed to no block. -/
def isPlainWrite (a : Nat) (l : Lanes) (_ : Word) (s : State) : Bool :=
  decide (destination s a l = .plain)

/-- A write to a published cell. -/
def isPublishedWrite (a : Nat) (l : Lanes) (_ : Word) (s : State) : Bool :=
  match destination s a l with
  | .published _ => true
  | _ => false

/-- A write to the argument cell. -/
def isArgumentWrite (a : Nat) (l : Lanes) (_ : Word) (s : State) : Bool :=
  decide (destination s a l = .argument)

/-- A write to the pending cell. -/
def isPendingWrite (a : Nat) (l : Lanes) (_ : Word) (s : State) : Bool :=
  decide (destination s a l = .pendingCell)

/-- A write to the enable cell. -/
def isEnableWrite (a : Nat) (l : Lanes) (_ : Word) (s : State) : Bool :=
  decide (destination s a l = .enableCell)

/-- A write to the consumer cell. -/
def isConsumerWrite (a : Nat) (l : Lanes) (_ : Word) (s : State) : Bool :=
  decide (destination s a l = .consumerCell)

/-- A write to the global level cell. -/
def isGlobalLevelWrite (a : Nat) (l : Lanes) (_ : Word) (s : State) : Bool :=
  decide (destination s a l = .globalLevel)

/-- A write into the pattern area. -/
def isPatternWrite (a : Nat) (l : Lanes) (_ : Word) (s : State) : Bool :=
  match destination s a l with
  | .pattern _ => true
  | _ => false

/-- A write the table latch watches. -/
def isWatchedWrite (a : Nat) (l : Lanes) (_ : Word) (s : State) : Bool :=
  match destination s a l with
  | .watched _ => true
  | _ => false

/-- A write of the command cell that is not taken as a command and is not ABORT's code (R113, R114, R115). DESIGN
CHOICE, safe: an ABORT written in COMPLETING is taken by the rows ABORT and ARBITER_DECISION and not by
COMMAND_CELL_WRITE, which leaves it waiting, as the row's summary in opcode_table.json has it ("any non-ABORT write
in COMPLETING"); 95_what_each_step_holds.md names ABORT_BLOCKED within both rows (notes/assumptions/5.md). -/
def isRefusedCommandWrite (a : Nat) (l : Lanes) (d : Word) (s : State) : Bool :=
  decide (destination s a l = .command) &&
    (if s.cmd.unit = .idle then decide (resultingValue l d s = 0)
     else decide (resultingValue l d s ≠ 8))

/-- HOST_WRITE (R146). -/
def execHostWrite (s : State) : Host.Outcome State Fault Refusal := .next (takeRow isPlainWrite s)

/-- PUBLISHED_CELL_WRITE (R140). -/
def execPublishedCellWrite (s : State) : Host.Outcome State Fault Refusal :=
  .next (takeRow isPublishedWrite s)

/-- ARGUMENT_WRITE (R117). -/
def execArgumentWrite (s : State) : Host.Outcome State Fault Refusal :=
  .next (takeRow isArgumentWrite s)

/-- PENDING_CELL_WRITE (R129). -/
def execPendingCellWrite (s : State) : Host.Outcome State Fault Refusal :=
  .next (takeRow isPendingWrite s)

/-- ENABLE_CELL_WRITE (R131). -/
def execEnableCellWrite (s : State) : Host.Outcome State Fault Refusal :=
  .next (takeRow isEnableWrite s)

/-- CONSUMER_CELL_WRITE (R87). -/
def execConsumerCellWrite (s : State) : Host.Outcome State Fault Refusal :=
  .next (takeRow isConsumerWrite s)

/-- GLOBAL_LEVEL_WRITE (R17). -/
def execGlobalLevelWrite (s : State) : Host.Outcome State Fault Refusal :=
  .next (takeRow isGlobalLevelWrite s)

/-- PATTERN_WRITE (R40). -/
def execPatternWrite (s : State) : Host.Outcome State Fault Refusal := .next (takeRow isPatternWrite s)

/-- TABLE_WRITE (R99). -/
def execTableWrite (s : State) : Host.Outcome State Fault Refusal := .next (takeRow isWatchedWrite s)

/-- COMMAND_CELL_WRITE (R114). -/
def execCommandCellWrite (s : State) : Host.Outcome State Fault Refusal :=
  .next (takeRow isRefusedCommandWrite s)

end Sys2Proof.Machine
end

