-- ==== Sys2Proof/Machine/Commands.lean ====
section
/-! DEFINITION. The rows of the commands: each takes the waiting host write of the command cell when the
arbiter grants it and its resulting value is the row's code (R112, R113). In IDLE the command is taken; in
BUSY and COMPLETING the write is rewritten (R114, R115), except that ABORT ends a running command (R121). -/

namespace Sys2Proof.Machine

/-- A write of the command cell with this resulting value. -/
def writesCode (code : Word) (a : Nat) (l : Lanes) (d : Word) (s : State) : Bool :=
  decide (destination s a l = .command ∧ resultingValue l d s = code)

/-- A write of the command cell whose resulting value names no command: 9 to 65535. -/
def writesUnknown (a : Nat) (l : Lanes) (d : Word) (s : State) : Bool :=
  decide (destination s a l = .command ∧ 9 ≤ (resultingValue l d s).toNat)

/-- START (R3). -/
def execStart (s : State) : Host.Outcome State Fault Refusal := .next (takeRow (writesCode 1) s)

/-- STOP (R18). -/
def execStop (s : State) : Host.Outcome State Fault Refusal := .next (takeRow (writesCode 2) s)

/-- FLIP (R45). -/
def execFlip (s : State) : Host.Outcome State Fault Refusal := .next (takeRow (writesCode 3) s)

/-- RELOAD (R46). -/
def execReload (s : State) : Host.Outcome State Fault Refusal := .next (takeRow (writesCode 4) s)

/-- FLUSH_QUEUE (R89). -/
def execFlushQueue (s : State) : Host.Outcome State Fault Refusal := .next (takeRow (writesCode 5) s)

/-- KEY_RESET (R74). -/
def execKeyReset (s : State) : Host.Outcome State Fault Refusal := .next (takeRow (writesCode 6) s)

/-- PANEL_RESET (R123). -/
def execPanelReset (s : State) : Host.Outcome State Fault Refusal := .next (takeRow (writesCode 7) s)

/-- ABORT (R121, R115, R118). -/
def execAbort (s : State) : Host.Outcome State Fault Refusal := .next (takeRow (writesCode 8) s)

/-- UNKNOWN_COMMAND (R113). -/
def execUnknownCommand (s : State) : Host.Outcome State Fault Refusal := .next (takeRow writesUnknown s)

end Sys2Proof.Machine
end

