-- ==== Sys2Proof/Machine/Fill.lean ====
section
/-! DEFINITION. The rows of the frame cache's fills and of its residency reports. -/

namespace Sys2Proof.Machine

/-- FILL_WORD0_READ (R35): a read of word 0 whose fill has not ended completes. -/
def execFillWord0Read (s : State) : Host.Outcome State Fault Refusal :=
  match s.arb.port with
  | .fill n idx 0 false => .next (readWord0 n idx s)
  | _ => .next s

/-- FILL_WORD1_READ (R36): a read of word 1 whose fill has not ended completes. -/
def execFillWord1Read (s : State) : Host.Outcome State Fault Refusal :=
  match s.arb.port with
  | .fill n idx 1 false => .next (readWord1 n idx s)
  | _ => .next s

/-- FILL_READ_DISCARDED (R38): a read whose fill has been withdrawn completes, its data discarded. -/
def execFillReadDiscarded (s : State) : Host.Outcome State Fault Refusal :=
  match s.arb.port with
  | .fill _ _ _ true => .next (s.withArb { s.arb with port := .free })
  | _ => .next s

/-- RUNNING_BEGINS (R4): the read under way completes when it makes the current frame resident in STARTING,
and RUNNING begins in that happening. -/
def execRunningBegins (s : State) : Host.Outcome State Fault Refusal :=
  match s.arb.port with
  | .fill n idx 1 false =>
    if currentResident (placeWord1 n idx s) then .next (readWord1 n idx s) else .next (reportCurrent s)
  | _ => .next (reportCurrent s)

/-- NEXT_FRAME_READY (R48): the read under way completes when it makes the next frame resident, and the
record becomes READY in that happening. -/
def execNextFrameReady (s : State) : Host.Outcome State Fault Refusal :=
  match s.arb.port with
  | .fill n idx 1 false =>
    if nextResident (placeWord1 n idx s) then .next (readWord1 n idx s) else .next (reportNext s)
  | _ => .next (reportNext s)

end Sys2Proof.Machine
end

