-- ==== Sys2Proof/Machine/Latch.lean ====
section
/-! DEFINITION. The rows of the table latch: LATCH_READ_COMPLETE (R97) and LENGTH_ACCEPTED (R91). -/

namespace Sys2Proof.Machine

/-- LATCH_READ_COMPLETE (R97). With no latch read under way nothing changes. -/
def execLatchReadComplete (s : State) : Host.Outcome State Fault Refusal :=
  match s.arb.port with
  | .latch off => .next (endLatchRead off s)
  | .free | .fill _ _ _ _ | .write _ _ _ => .next s

/-- LENGTH_ACCEPTED (R91): while the length waits, the end of the fourth word of the last staged record empties
the staging list, and the queue accepts the length in that happening. -/
def execLengthAccepted (s : State) : Host.Outcome State Fault Refusal :=
  match s.queue.acceptance with
  | none => .next s
  | some _ =>
    match s.arb.port with
    | .write (.record p 3) d r =>
      if s.ws.staging.length = 1 then .next (endWrite (.record p 3) d r s) else .next s
    | _ => .next (settleLength s)

end Sys2Proof.Machine
end

