-- ==== Sys2Proof/Machine/Port.lean ====
section
/-! DEFINITION. The rows of the memory port: HOST_CYCLE_PRESENTED (R145) and ARBITER_DECISION (R151). -/

namespace Sys2Proof.Machine

/-- The host presents a cycle (R145): it waits for the port with WAIT asserted. While RESET is held it is
made at once and seen by no block (R148). The host presents one cycle at a time (R145): while one waits,
another is not presented and nothing changes. -/
def presentCycle (c : HostCycle) (s : State) : State :=
  if s.pass.resetHeld then makeUnseen c s
  else
    match s.pass.waiting with
    | some _ => s
    | none => s.withPass { s.pass with waiting := some c, waitLine := true }

/-- HOST_CYCLE_PRESENTED (R145). No host bus carries an address outside the 20-bit space. -/
def execHostCyclePresented (c : HostCycle) (s : State) : Host.Outcome State Fault Refusal :=
  if c.addr < Config.hostSpace then .next (presentCycle c s) else .fault .noSuchAddress

/-- ARBITER_DECISION (R151). With no request waiting, the port busy or RESET held there is no decision and
nothing changes. -/
def execArbiterDecision (s : State) : Host.Outcome State Fault Refusal :=
  .next (decidePort s)

end Sys2Proof.Machine
end

