-- ==== Sys2Proof/Machine/Reset.lean ====
section
/-! DEFINITION. The rows of the RESET line: RESET_ASSERTED (R148) and RESET_RELEASED (R149). -/

namespace Sys2Proof.Machine

/-- A part write under way when RESET is asserted ends: its word holds its old or its new value, which the
manual leaves open, so a free value decides (R148, notes/assumptions/3.md). -/
def endPartCycle (s : State) : State :=
  match s.arb.port with
  | .write t d _ =>
    let s₁ := s.withFreeCount (s.freeCount + 1)
    if Config.endedWriteStands s.freeCount then storeTarget t d s₁ else s₁
  | .free | .fill _ _ _ _ | .latch _ => s

/-- A host cycle presented and waiting when RESET is asserted is made at once, as presented (R148). -/
def makeWaiting (s : State) : State :=
  match s.pass.waiting with
  | some c => makeUnseen c s
  | none => s

/-- Every block at its line-reset values (R21, R42, R56, R80, R93, R110, R125, R133, R142, R150), RESET held,
nothing waiting. Memory, the queue of commands, the window base (not used until the next release, R144), the
input lines and the data last returned to the host stay. -/
def lineReset (s : State) : State :=
  { State.reset with
    pass := { PassThrough.lineReset with
      windowBase := s.pass.windowBase, straps := s.pass.straps, hostData := s.pass.hostData },
    scan := { ScanEngine.lineReset with senseLines := s.scan.senseLines },
    mem := s.mem, freeCount := s.freeCount, pending := s.pending }

/-- RESET_ASSERTED (R148). While RESET is already held it cannot be asserted again: nothing changes. -/
def execResetAsserted (s : State) : Host.Outcome State Fault Refusal :=
  if s.pass.resetHeld then .next s else .next (lineReset (makeWaiting (endPartCycle s)))

/-- The initial publication, in the order of R126. -/
def initialPublication (s : State) : State :=
  let r : StatusRecord := ⟨0, resultCode .reset, 0, 0⟩
  let s₁ := publish .scanState (publish .shownBase (publish .consumer
    (publish .producer (publish .pending s))))
  publish .command (placeUpdate .statusRecord (.status r 0) (s₁.withCmd { s₁.cmd with record := r }))

/-- RESET_RELEASED (R149): the straps place the window (R144), and the initial publication is placed (R126).
While RESET is not held it cannot be released: nothing changes. -/
def execResetReleased (straps : BitVec 4) (s : State) : Host.Outcome State Fault Refusal :=
  if s.pass.resetHeld then
    .next (initialPublication (s.withPass { s.pass with
      resetHeld := false, straps := straps, windowBase := straps.toNat * Config.strapStep }))
  else .next s

end Sys2Proof.Machine
end

