-- ==== Sys2Proof/Machine/Scan.lean ====
section
/-! DEFINITION. The rows of the scan engine and of the frame boundary. A row stands for the arrival of its
moment: whatever ticks the phase has left have passed (notes/assumptions/7.md). Outside RUNNING, or in
another phase, the happening does not come about and nothing changes. -/

namespace Sys2Proof.Machine

/-- The engine's next happening is a frame boundary: RUNNING, in the gap of the last slot (R7, R16). -/
def boundaryDue (s : State) : Bool :=
  decide (s.scan.state = .running ∧ s.scan.phase = .gap ∧ nextSlot s = none)

/-- A preparation reaches the switch timeout at the next boundary (R49). -/
def timeoutDue (s : State) : Bool :=
  decide (s.switch.state = .preparing ∧ s.switch.framesWaited + 1 = s.switch.timeout)

/-- The repeat key's next REPEAT is due at the next boundary (R70, R73). -/
def repeatIsDue (s : State) : Bool :=
  match s.keys.repeatKey with
  | none => false
  | some k =>
    decide (s.keys.reset = .idle ∧ (keyAt s k).down = true ∧ s.keys.framesToRepeat - 1 = 0)

/-- SLOT_START (R8). -/
def execSlotStart (s : State) : Host.Outcome State Fault Refusal :=
  match s.scan.state, nextSlot s with
  | .running, some i => .next (startSlot i s)
  | _, _ => .next s

/-- LIT_TICKS_END (R11): due while the slot's lit ticks have not yet run out. -/
def execLitTicksEnd (s : State) : Host.Outcome State Fault Refusal :=
  if s.scan.state = .running ∧ s.scan.phase = .onTime ∧
      currentOnTime s - s.scan.ticksRemaining < s.scan.litTicks then
    .next (endLit s)
  else .next s

/-- ON_TIME_END (R7, R15): `sense` is what the sense inputs carry. -/
def execOnTimeEnd (sense : BitVec 8) (s : State) : Host.Outcome State Fault Refusal :=
  if s.scan.state = .running ∧ s.scan.phase = .onTime then .next (endOnTime sense s) else .next s

/-- FRAME_BOUNDARY (R16). -/
def execFrameBoundary (s : State) : Host.Outcome State Fault Refusal :=
  if boundaryDue s then .next (takeBoundary s) else .next s

/-- SWITCH_TIMEOUT (R49): the boundary at which a preparation reaches the timeout, with its LATE switch. -/
def execSwitchTimeout (s : State) : Host.Outcome State Fault Refusal :=
  if boundaryDue s && timeoutDue s then .next (takeBoundary s) else .next s

/-- REPEAT (R73): the boundary at which the repeat key's REPEAT is due. -/
def execRepeat (s : State) : Host.Outcome State Fault Refusal :=
  if boundaryDue s && repeatIsDue s then .next (takeBoundary s) else .next s

end Sys2Proof.Machine
end

