-- ==== Sys2Proof/Machine/WriteStage.lean ====
section
/-! DEFINITION. The rows of the write stage: the end of one of its writes (R138), and the ends that its
owners wait for. The named ends are cases of WRITE_STAGE_WRITE_DONE; with no such write under way nothing
changes. DRAIN_RETRY (R75) is a waiting drain's asking. -/

namespace Sys2Proof.Machine

/-- WRITE_STAGE_WRITE_DONE (R138). -/
def execWriteStageWriteDone (s : State) : Host.Outcome State Fault Refusal :=
  match s.arb.port with
  | .write t d r => .next (endWrite t d r s)
  | .free | .fill _ _ _ _ | .latch _ => .next s

/-- RECORD_COMPLETE (R85): the write that ends is the fourth word of the head record. -/
def execRecordComplete (s : State) : Host.Outcome State Fault Refusal :=
  match s.arb.port with
  | .write (.record p 3) d r => .next (endWrite (.record p 3) d r s)
  | _ => .next s

/-- QUEUE_DATA (R85): the write that ends is the producer cell's, its entry leaves the list, and a
completion waits to be announced. -/
def execQueueData (s : State) : Host.Outcome State Fault Refusal :=
  match s.arb.port with
  | .write (.cell .producer) d false =>
    if s.queue.announce then .next (endWrite (.cell .producer) d false s) else .next s
  | _ => .next s

/-- COMPLETING_ENDS (R119): the write that ends is the clearing write of the command cell. -/
def execCompletingEnds (s : State) : Host.Outcome State Fault Refusal :=
  match s.arb.port with
  | .write (.cell .command) d false => .next (endWrite (.cell .command) d false s)
  | _ => .next s

/-- FLUSH_QUEUE_DONE (R89): the write that ends is the consumer cell's while FLUSH_QUEUE runs, and its entry
leaves the list. -/
def execFlushQueueDone (s : State) : Host.Outcome State Fault Refusal :=
  match s.arb.port with
  | .write (.cell .consumer) d false =>
    if flushRuns s then .next (endWrite (.cell .consumer) d false s) else .next s
  | _ => .next s

/-- A valid write of the consumer cell waits and is granted. -/
def validConsumerWrite (a : Nat) (l : Lanes) (d : Word) (s : State) : Bool :=
  decide (destination s a l = .consumerCell) &&
    validConsumer s.queue (mergeLanes l d (toWord s.queue.cons)).toNat

/-- DRAIN_RETRY (R75): a waiting drain asks again. When there is no room, the happening that makes room is
taken: the completion of a record whose fourth word is being written, or a valid consumer write. -/
def execDrainRetry (s : State) : Host.Outcome State Fault Refusal :=
  if s.keys.reset = .idle then .next s
  else if canReserve s then .next (askDrain s)
  else
    match s.arb.port with
    | .write (.record p 3) d r => .next (endWrite (.record p 3) d r s)
    | _ => .next (takeRow validConsumerWrite s)

end Sys2Proof.Machine
end

