-- ==== Sys2Proof/Machine/Dispatch.lean ====
section
/-! DEFINITION. One arm per row of spec/opcode_table.json: the meaning of each command. -/

namespace Sys2Proof.Machine

def exec (i : Instr) (s : State) : Host.Outcome State Fault Refusal :=
  match i with
  | .resetAsserted => Sys2Proof.Machine.execResetAsserted s
  | .resetReleased straps => Sys2Proof.Machine.execResetReleased straps s
  | .hostCyclePresented cycle => Sys2Proof.Machine.execHostCyclePresented cycle s
  | .arbiterDecision => Sys2Proof.Machine.execArbiterDecision s
  | .hostWrite => Sys2Proof.Machine.execHostWrite s
  | .publishedCellWrite => Sys2Proof.Machine.execPublishedCellWrite s
  | .start => Sys2Proof.Machine.execStart s
  | .stop => Sys2Proof.Machine.execStop s
  | .flip => Sys2Proof.Machine.execFlip s
  | .reload => Sys2Proof.Machine.execReload s
  | .flushQueue => Sys2Proof.Machine.execFlushQueue s
  | .keyReset => Sys2Proof.Machine.execKeyReset s
  | .panelReset => Sys2Proof.Machine.execPanelReset s
  | .abort => Sys2Proof.Machine.execAbort s
  | .unknownCommand => Sys2Proof.Machine.execUnknownCommand s
  | .argumentWrite => Sys2Proof.Machine.execArgumentWrite s
  | .pendingCellWrite => Sys2Proof.Machine.execPendingCellWrite s
  | .enableCellWrite => Sys2Proof.Machine.execEnableCellWrite s
  | .consumerCellWrite => Sys2Proof.Machine.execConsumerCellWrite s
  | .globalLevelWrite => Sys2Proof.Machine.execGlobalLevelWrite s
  | .patternWrite => Sys2Proof.Machine.execPatternWrite s
  | .tableWrite => Sys2Proof.Machine.execTableWrite s
  | .latchReadComplete => Sys2Proof.Machine.execLatchReadComplete s
  | .lengthAccepted => Sys2Proof.Machine.execLengthAccepted s
  | .fillWord0Read => Sys2Proof.Machine.execFillWord0Read s
  | .fillWord1Read => Sys2Proof.Machine.execFillWord1Read s
  | .fillReadDiscarded => Sys2Proof.Machine.execFillReadDiscarded s
  | .runningBegins => Sys2Proof.Machine.execRunningBegins s
  | .nextFrameReady => Sys2Proof.Machine.execNextFrameReady s
  | .slotStart => Sys2Proof.Machine.execSlotStart s
  | .litTicksEnd => Sys2Proof.Machine.execLitTicksEnd s
  | .onTimeEnd sense => Sys2Proof.Machine.execOnTimeEnd sense s
  | .frameBoundary => Sys2Proof.Machine.execFrameBoundary s
  | .switchTimeout => Sys2Proof.Machine.execSwitchTimeout s
  | .repeatDue => Sys2Proof.Machine.execRepeat s
  | .writeStageWriteDone => Sys2Proof.Machine.execWriteStageWriteDone s
  | .recordComplete => Sys2Proof.Machine.execRecordComplete s
  | .queueData => Sys2Proof.Machine.execQueueData s
  | .completingEnds => Sys2Proof.Machine.execCompletingEnds s
  | .flushQueueDone => Sys2Proof.Machine.execFlushQueueDone s
  | .drainRetry => Sys2Proof.Machine.execDrainRetry s
  | .commandCellWrite => Sys2Proof.Machine.execCommandCellWrite s

end Sys2Proof.Machine
end

