-- ==== Sys2Proof/Safety.lean ====
section
/-! DEFINITION. What a safe run is: the laws the manual states of the part's state, as predicates. Each is
stated so that every step keeps it from every state that meets it. -/

namespace Sys2Proof.Machine

/-! ### Memory -/

/-- Memory has its canonical form. -/
def MemoryCanonical (s : State) : Prop := Memory.wf s.mem = true

/-! ### Lines (R14, R132, R145) -/

/-- INT follows the two sets; WAIT follows the presented cycle; outside an on-time of RUNNING every grid and
segment line is off; at most one grid line is driven, and segments only while one is. -/
def LinesSafe (s : State) : Prop :=
  s.events.intLine = intOf s.events.pendingSet s.events.enableSet
  ∧ s.pass.waitLine = s.pass.waiting.isSome
  ∧ (s.pass.resetHeld = true → s.pass.waiting = none)
  ∧ ((s.scan.state ≠ .running ∨ s.scan.phase ≠ .onTime) →
      s.scan.gridLines = 0 ∧ s.scan.segLines = 0)
  ∧ (s.scan.gridLines = 0 ∨ ∃ g : BitVec 4, s.scan.gridLines = gridLine g)
  ∧ (s.scan.segLines ≠ 0 → s.scan.gridLines ≠ 0)

/-! ### Event queue (R81, R82, R83, R84) -/

/-- The record word under way, if any, is the next word of the head staged event's record. -/
def RecordWriteLaw (s : State) : Prop :=
  match s.arb.port with
  | .write (.record p k) _ _ => s.ws.staging ≠ [] ∧ p = s.queue.prod ∧ k = s.ws.recordProgress
  | _ => True

/-- The law of R82, with the ranges of R81 and the ring positions of R83. -/
def QueueLaw (s : State) : Prop :=
  4 ≤ s.queue.len ∧ s.queue.len ≤ 32 ∧ s.queue.prod < s.queue.len ∧ s.queue.cons < s.queue.len
  ∧ staged s ≤ 4
  ∧ queueCount s.queue + staged s + 1 ≤ s.queue.len
  ∧ (∀ p ∈ s.ws.staging.zipIdx, p.1.position = (s.queue.prod + p.2) % s.queue.len)
  ∧ s.ws.recordProgress ≤ 3
  ∧ (∀ n ∈ s.queue.acceptance, 4 ≤ n ∧ n ≤ 32)
  ∧ RecordWriteLaw s

/-! ### Key scanner (R58, R59, R65, R73) -/

/-- The ranges of R58 and R59, a repeat tracker with no key at 0 (R58), the law of R65 that the down count never
exceeds 8, and that of R73 that the repeat key is DOWN. -/
def KeyLaw (s : State) : Prop :=
  s.keys.table.length = Config.keyCount
  ∧ downCount s ≤ 8
  ∧ (∀ x ∈ s.keys.table, x.count ≤ 7)
  ∧ 1 ≤ s.keys.debounce ∧ s.keys.debounce ≤ 7
  ∧ 2 ≤ s.keys.rollover ∧ s.keys.rollover ≤ 8
  ∧ s.keys.repeatDelay ≤ 255 ∧ 1 ≤ s.keys.repeatInterval ∧ s.keys.repeatInterval ≤ 255
  ∧ s.keys.framesToRepeat ≤ 255 ∧ s.keys.repeatCount ≤ 255
  ∧ (s.keys.repeatKey = none → s.keys.framesToRepeat = 0 ∧ s.keys.repeatCount = 0)
  ∧ (∀ k ∈ s.keys.repeatKey, k < Config.keyCount ∧ (keyAt s k).down = true)
  ∧ (s.keys.reset ≠ .idle → s.keys.repeatKey = none)
  ∧ (s.latch.progress = .holding → checkConfig s.latch.image = none)

/-! ### Command unit (R111) -/

/-- No command runs in any block. -/
def Quiet (s : State) : Prop :=
  s.latch.progress = .idle ∧ s.switch.state = .none ∧ s.keys.reset = .idle
  ∧ s.scan.state ≠ .starting ∧ s.queue.acceptance = none

/-- START runs: STARTING, a START latch at work. -/
def StartRuns (s : State) : Prop :=
  s.scan.state = .starting ∧ s.latch.progress ≠ .idle ∧ s.latch.purpose = .start
  ∧ s.switch.state = .none ∧ s.keys.reset = .idle
  ∧ (s.queue.acceptance ≠ none → s.latch.progress = .holding)

/-- A next frame is being prepared, or is ready, in RUNNING. -/
def PreparationRuns (s : State) : Prop :=
  s.scan.state = .running ∧ s.latch.progress = .idle ∧ s.switch.state ≠ .none
  ∧ s.keys.reset = .idle ∧ s.queue.acceptance = none

/-- RELOAD's latch reads in RUNNING. -/
def ReloadReads (s : State) : Prop :=
  s.scan.state = .running ∧ s.latch.progress = .reading ∧ s.latch.purpose = .reload
  ∧ s.switch.state = .none ∧ s.keys.reset = .idle ∧ s.queue.acceptance = none

/-- KEY_RESET's drain waits. -/
def DrainRuns (s : State) : Prop :=
  s.scan.state ≠ .starting ∧ s.latch.progress = .idle ∧ s.switch.state = .none
  ∧ s.keys.reset ≠ .idle ∧ s.queue.acceptance = none

/-- The part's own write of the command cell neither waits nor is under way (R119: it is placed by a
completion, and COMPLETING ends with it). -/
def NoClearing (s : State) : Prop :=
  hasEntry .command s.ws.updates = false ∧ ∀ d r, s.arb.port ≠ .write (.cell .command) d r

/-- No table is in force in OFF, nor in STARTING until the latch has succeeded (R2, R3, R105). -/
def NoTableLaw (s : State) : Prop :=
  (s.scan.state = .off ∨ (s.scan.state = .starting ∧ s.latch.progress ≠ .warming)) → s.scan.table = []

/-- What runs in the part, by the command unit's state (R111, R118): in IDLE nothing, with cell value 0; in
BUSY exactly the command taken, whose code is the cell value; in COMPLETING nothing, and only there is the
command cell's clearing waiting or under way; while RESET is held it is COMPLETING and no part memory cycle is
under way (R125, R148). With it, when no table is in force. -/
def CommandLaw (s : State) : Prop :=
  (s.pass.resetHeld = true → s.cmd.unit = .completing ∧ s.arb.port = .free) ∧ NoTableLaw s ∧
  match s.cmd.unit with
  | .idle => s.cmd.cellValue = 0 ∧ s.cmd.taken = none ∧ NoClearing s ∧ Quiet s
  | .completing => Quiet s
  | .busy =>
    s.cmd.taken = some s.cmd.cellValue ∧ NoClearing s ∧
      ((s.cmd.cellValue = 1 ∧ StartRuns s)
        ∨ (s.cmd.cellValue = 3 ∧ PreparationRuns s)
        ∨ (s.cmd.cellValue = 4 ∧ (ReloadReads s ∨ PreparationRuns s))
        ∨ (s.cmd.cellValue = 5 ∧ Quiet s)
        ∨ (s.cmd.cellValue = 6 ∧ DrainRuns s))

/-! ### Frame cache (R22, R23, R25, R32) -/

/-- What a line's fields are in each state (R22), and that every FILLING line carries a pin (R25). -/
def LineLaw (l : Line) : Prop :=
  match l.state with
  | .empty => l.wordsRead = 0 ∧ l.segments = 0 ∧ l.level = 0 ∧ pinned l = false
  | .filling => l.wordsRead ≤ 1 ∧ pinned l = true
  | .valid => l.wordsRead = 2

/-- The frame cache's laws: 64 lines; at most one line that is not EMPTY holds any index (R23); the fill
request list holds each FILLING line once and nothing else, its DEMAND entries first (R32). -/
def CacheLaw (s : State) : Prop :=
  s.cache.lines.length = Config.lineCount
  ∧ (∀ l ∈ s.cache.lines, LineLaw l)
  ∧ s.cache.lines.Pairwise (fun x y => x.state ≠ .empty → y.state ≠ .empty → x.index ≠ y.index)
  ∧ (s.cache.fills.map FillEntry.line).Nodup
  ∧ (∀ e ∈ s.cache.fills, isFilling s.cache.lines e.line = true)
  ∧ (∀ p ∈ s.cache.lines.zipIdx, p.1.state = .filling → p.2 ∈ s.cache.fills.map FillEntry.line)
  ∧ s.cache.fills.Pairwise (fun x y => y.cls = .demand → x.cls = .demand)

/-! ### The cache follows memory (the law of R40) -/

/-- The part of a line that word `k` of its record gives equals the word in memory. -/
def WordHeld (s : State) (l : Line) (k : Nat) : Prop :=
  placeLanes k bothLanes (windowWord s (patternOffset l.index k)) l = l

/-- Every word a VALID line holds, or a FILLING line has already read, equals memory. -/
def LineFollows (s : State) (l : Line) : Prop :=
  l.state ≠ .empty → ∀ k < 2, (l.state = .valid ∨ k < l.wordsRead) → WordHeld s l k

/-- The fill read under way reads the next word of the record its FILLING line holds, unless its fill has
ended. -/
def FillReadLaw (s : State) : Prop :=
  match s.arb.port with
  | .fill n idx w false =>
    match s.cache.lines[n]? with
    | some l => l.state = .filling ∧ l.index = idx ∧ l.wordsRead = w
    | none => False
  | _ => True

/-- The window lies where the straps can put it (R144). -/
def WindowLaw (s : State) : Prop := ∃ k < 16, s.pass.windowBase = k * Config.strapStep

/-- A write stage write under way goes to the control block or the ring, never to the pattern area (R135). -/
def PortTargetLaw (s : State) : Prop :=
  match s.arb.port with
  | .write t _ _ => targetOffset t + 2 ≤ Config.patternBase
  | _ => True

/-- A waiting status record has at most three of its words written (R135). -/
def WordsWrittenLaw (e : Entry) : Prop :=
  match e.value with
  | .status _ k => k ≤ 3
  | .word _ => True

/-- No write of the write stage, under way or waiting, reaches the pattern area (R135, R137). -/
def StageTargetsLaw (s : State) : Prop :=
  PortTargetLaw s ∧ ∀ e ∈ s.ws.updates, WordsWrittenLaw e

/-- The law of R40, with what it rests on. -/
def CacheFollowsMemory (s : State) : Prop :=
  QueueLaw s ∧ CacheLaw s ∧ WindowLaw s ∧ StageTargetsLaw s ∧ FillReadLaw s
  ∧ (s.pass.resetHeld = true →
      s.arb.port = .free ∧ s.latch.progress = .idle ∧ ∀ l ∈ s.cache.lines, l.state = .empty)
  ∧ (∀ l ∈ s.cache.lines, LineFollows s l)

/-! ### Published cells (the laws of R116 and R141) -/

/-- A waiting entry carries the part's own value of its cell; the command cell's carries the clearing value
0; the status record's carries the record last placed, whose words written so far stand in memory. -/
def EntryLaw (s : State) (e : Entry) : Prop :=
  match e.cell, e.value with
  | .command, .word v => v = 0
  | .statusRecord, .status r k =>
    r = s.cmd.record ∧ k ≤ 3 ∧ ∀ j < k, windowWord s (0x008 + 2 * j) = statusWord r j
  | .statusRecord, .word _ => False
  | _, .status _ _ => False
  | c, .word v => v = cellWord s c

/-- The write under way serves the entry at the head of the list (R137), and carries its value unless that has
been replaced since the grant. -/
def WriteUnderWayLaw (s : State) : Prop :=
  match s.arb.port with
  | .write (.cell c) d false => s.ws.updates.head? = some ⟨c, .word d⟩
  | .write (.cell c) _ true =>
    c ≠ .statusRecord ∧ c ≠ .command ∧ s.ws.updates.head?.map Entry.cell = some c
  | .write (.status k) d _ =>
    k ≤ 3 ∧ d = statusWord s.cmd.record k
      ∧ s.ws.updates.head? = some ⟨.statusRecord, .status s.cmd.record k⟩
  | _ => True

/-- The command cell's entry never stands ahead of the status record's (R119, R136). -/
def StatusBeforeCommand (us : List Entry) : Prop :=
  us.Pairwise (fun x y => ¬ (x.cell = .command ∧ y.cell = .statusRecord))

/-- The laws of R116 and R141 with what they rest on: while RESET is not held, every cell the part owns with
no waiting entry holds the part's own value in memory; and while a command has been taken, the command cell
in memory holds the cell value. -/
def PublishedCellsLaw (s : State) : Prop :=
  CommandLaw s ∧ QueueLaw s ∧ WindowLaw s
  ∧ (s.ws.updates.map Entry.cell).Nodup
  ∧ (∀ e ∈ s.ws.updates, EntryLaw s e)
  ∧ StatusBeforeCommand s.ws.updates
  ∧ WriteUnderWayLaw s
  ∧ (s.pass.resetHeld = true →
      s.ws.updates = [] ∧ s.ws.staging = [] ∧ s.scan.state = .off
      ∧ s.cmd.taken = none ∧ s.cmd.cellValue = 0)
  ∧ (s.cmd.unit ≠ .completing →
      hasEntry .command s.ws.updates = false ∧ hasEntry .statusRecord s.ws.updates = false)
  ∧ (s.pass.resetHeld = false → s.cmd.unit = .completing → hasEntry .command s.ws.updates = true)
  ∧ (s.pass.resetHeld = false → s.cmd.taken ≠ none → windowWord s 0x000 = s.cmd.cellValue)
  ∧ (s.pass.resetHeld = false →
      ∀ c ∈ [Cell.command, .pending, .producer, .consumer, .shownBase, .scanState],
        hasEntry c s.ws.updates = false → windowWord s (cellOffset c) = cellWord s c)
  ∧ (s.pass.resetHeld = false → hasEntry .statusRecord s.ws.updates = false →
      ∀ k < 4, windowWord s (0x008 + 2 * k) = statusWord s.cmd.record k)

/-! ### A granted host cycle -/

/-- The arbiter's decision of this moment grants HOST, and the waiting cycle is `c` (R145, R151): RESET is
not held, the port is free, and either no part class waits or the starve counter is below the limit. -/
def HostGranted (s : State) (c : HostCycle) : Prop :=
  s.pass.resetHeld = false ∧ s.arb.port = .free ∧ s.pass.waiting = some c
  ∧ (firstPart s = none ∨ s.arb.starveCounter < s.arb.starveLimit)

/-- A granted host write reaches `dst` (R146). -/
def WriteGranted (s : State) (a : Nat) (l : Lanes) (d : Word) (dst : Destination) : Prop :=
  HostGranted s (.write a l d) ∧ destination s a l = dst

/-- A granted host write of the command cell has the resulting value `code` (R112). -/
def CommandWritten (s : State) (a : Nat) (l : Lanes) (d : Word) (code : Word) : Prop :=
  WriteGranted s a l d .command ∧ resultingValue l d s = code

/-- The granted host write has reached memory with data `d`, and nothing else has happened: WAIT is released
and the starve counter has followed the grant. -/
def written (s : State) (a : Nat) (l : Lanes) (d : Word) : State :=
  (grantHost s).withMem (putLanes s.mem (wordAddr a) l d)

/-- The granted host write has reached memory and the command `code` has been taken, BUSY (R113). -/
def commandTaken (s : State) (a : Nat) (l : Lanes) (d : Word) (code : Word) : State :=
  (written s a l d).withCmd { s.cmd with
    unit := .busy, cellValue := code, taken := some code, argument := s.cmd.argCopy }

/-- The memory cycle under way has ended and nothing else has happened. -/
def portFreed (s : State) : State := s.withArb { s.arb with port := .free }

/-- The word `d` has been written at a window offset, both lanes, and the port is free again. -/
def cellStored (s : State) (off : Nat) (d : Word) : State :=
  (portFreed s).withMem (putLanes s.mem (s.pass.windowBase + off) bothLanes d)

/-- All grid and segment lines off, no table in force, scan state OFF (R18, R20). -/
def scanOff (e : ScanEngine) : ScanEngine :=
  { e with state := .off, table := [], gridLines := 0, segLines := 0 }

/-- Every byte outside the carried lanes of the word at `a` reads as before. -/
def StoresOnly (s t : State) (a : Nat) (l : Lanes) : Prop :=
  ∀ x, ¬ (l.low = true ∧ x = a) → ¬ (l.high = true ∧ x = a + 1) → byteAt t.mem x = byteAt s.mem x

/-! ### The end of a latch's reads (R97, R102, R103) -/

/-- The read under way is the third word of a record that carries the last mark, or of record 23, and completes
the read order; `l` is the latch with that word placed. -/
def LastRead (s : State) (off : Nat) (l : TableLatch) : Prop :=
  s.arb.port = .latch off ∧ s.latch.progress = .reading ∧ 0x100 ≤ off ∧ off % 8 = 4
  ∧ ∃ rs r, s.latch.table = rs ++ [r] ∧ (r.flags.getLsbD 1 = true ∨ rs.length = 23)
    ∧ l = { s.latch with
        wordsRead := s.latch.wordsRead ++ [off],
        table := rs ++ [{ r with onTime := wordAt s.mem (s.pass.windowBase + off) }] }

/-- The table of R102: lowest and highest accepted value of each configuration cell, in read order. -/
def acceptedValues : List (Nat × Nat) :=
  [(1, 255), (1, 15), (0, 15), (1, 7), (0, 255), (1, 255), (2, 8), (0, 1), (4, 32), (1, 8), (1, 255),
   (0, 511)]

/-- Configuration word `k` is among its accepted values. -/
def ConfigWordAccepted (image : List Word) (k : Nat) : Prop :=
  ∃ lo hi w, acceptedValues[k]? = some (lo, hi) ∧ image[k]? = some w ∧ lo ≤ w.toNat ∧ w.toNat ≤ hi

/-- Every configuration word is accepted, or the latch serves RELOAD, which reads none. -/
def ConfigPasses (l : TableLatch) : Prop :=
  l.purpose = .reload ∨ (l.purpose = .start ∧ ∀ k < 12, ConfigWordAccepted l.image k)

/-- The table of R103: the window offset at which record `i` of the pending table fails, in the order of the
checks. -/
def recordFault (t : List RawRecord) (i : Nat) (r : RawRecord) : Option Nat :=
  if 16 ≤ r.grid.toNat ∧ r.grid.toNat ≤ 254 then some (0x100 + 8 * i)
  else if r.grid.toNat = 255 ∧ r.flags.getLsbD 0 = true then some (0x100 + 8 * i)
  else if r.flags.getLsbD 0 = true ∧ ∃ q ∈ t.take i, q.flags.getLsbD 0 = true ∧ q.grid = r.grid then
    some (0x100 + 8 * i)
  else if 512 ≤ r.offset.toNat then some (0x102 + 8 * i)
  else if r.onTime.toNat = 0 ∨ 256 ≤ r.onTime.toNat then some (0x104 + 8 * i)
  else none

/-- Every record of the pending table passes. -/
def TablePasses (t : List RawRecord) : Prop := ∀ i r, t[i]? = some r → recordFault t i r = none

/-- A checked record as a slot record: grid 0 to 15 or dark, sense mark, offset, on-time (R98). -/
def checkedSlot (r : RawRecord) : SlotRecord :=
  { grid := if r.grid.toNat < 16 then some (r.grid.setWidth 4) else none,
    sense := r.flags.getLsbD 0, offset := r.offset.setWidth 9, onTime := r.onTime.toNat }

/-- The START latch has succeeded from `b`, and `t` is what that happening leaves. Every latched value is in force
(the table of R105) and everything else as in `b`; the updates of the success stand in their order: producer and
consumer cell if the queue length changed (R91), scan state cell (STARTING, the new slot count), shown base cell.
The warm-up has followed (R107): CURRENT is set on the first frame's indices, and when that left every CURRENT line
VALID, RUNNING has begun (R4): frame counter 0, the pending level in force, the scan state published again, START
completed with the restart count, slot 0 started. -/
def LatchedInForce (b t : State) (image : List Word) (table : List RawRecord) : Prop :=
  ∃ (w0 w1 w2 w3 w4 w5 w6 w7 w8 w9 w10 w11 : Word) (v : State),
    image = [w0, w1, w2, w3, w4, w5, w6, w7, w8, w9, w10, w11]
    ∧ v = { b with
        arb := { b.arb with starveLimit := w9.toNat },
        ws := { b.ws with updates :=
          (placeUpdate .shownBase (.word w11)
            (placeUpdate .scanState (.word (joinBytes (BitVec.ofNat 8 table.length) 1))
              (if w8.toNat = b.queue.len then b
              else placeUpdate .consumer (.word 0) (placeUpdate .producer (.word 0) b)))).ws.updates },
        latch := ⟨.warming, .start, b.latch.restarts, [], [], []⟩,
        scan := { b.scan with
          table := table.map checkedSlot, frameBase := BitVec.ofNat 9 w11.toNat,
          tickDivide := w0.toNat, gapTicks := w1.toNat, pendingLevel := w2.toNat },
        cache := (setPins .current (indexSet (table.map checkedSlot) (BitVec.ofNat 9 w11.toNat)) b).cache,
        switch := { b.switch with timeout := w10.toNat },
        keys := { b.keys with
          debounce := w3.toNat, repeatDelay := w4.toNat, repeatInterval := w5.toNat, rollover := w6.toNat,
          closedHigh := decide (w7 = 1) },
        queue := { b.queue with
          len := w8.toNat, prod := if w8.toNat = b.queue.len then b.queue.prod else 0,
          cons := if w8.toNat = b.queue.len then b.queue.cons else 0, acceptance := none } }
    ∧ t =
      if table ≠ [] ∧ ∀ x ∈ v.cache.lines, x.current = true → x.state = .valid then
        startSlot 0 (completeTaken .done (BitVec.ofNat 16 b.latch.restarts)
          (placeUpdate .scanState (.word (joinBytes (BitVec.ofNat 8 table.length) 2))
            ((v.withLatch ⟨.idle, .start, 0, [], [], []⟩).withScan { v.scan with
              state := .running, frameCounter := 0, globalLevel := v.scan.pendingLevel, slotIndex := 0,
              phase := .boundaryTaken, ticksRemaining := 0 })))
      else v

/-! ### Allocation (R25) -/

/-- The age of a line at a frame counter, modulo 65536 (R25). -/
def ageAt (fc : Word) (x : Line) : Nat := (fc.toNat + 65536 - x.lastUse.toNat) % 65536

/-- A VALID line that carries neither pin. -/
def Unpinned (x : Line) : Prop := x.state = .valid ∧ x.current = false ∧ x.next = false

/-- Line `n` is the one R25 chooses: the EMPTY line with the lowest number; with no EMPTY line, the oldest unpinned
VALID line, the lowest number among lines of equal age. -/
def ChosenLine (lines : List Line) (fc : Word) (n : Nat) : Prop :=
  ∃ x, lines[n]? = some x ∧
    ((x.state = .empty ∧ ∀ (m : Nat) (y : Line), m < n → lines[m]? = some y → y.state ≠ .empty)
    ∨ ((∀ y ∈ lines, y.state ≠ .empty) ∧ Unpinned x
      ∧ ∀ (m : Nat) (y : Line), lines[m]? = some y → Unpinned y →
          ageAt fc y < ageAt fc x ∨ (ageAt fc y = ageAt fc x ∧ n ≤ m)))

/-! ### The frame boundary -/

/-- The frame switch's boundary action is a switch (R49). -/
def SwitchDue (s : State) : Prop :=
  s.switch.state = .ready ∨ (s.switch.state = .preparing ∧ s.switch.framesWaited + 1 = s.switch.timeout)

/-- The engine's next happening is a frame boundary (R7, R16). -/
def BoundaryDue (s : State) : Prop :=
  s.scan.state = .running ∧ s.scan.phase = .gap ∧ s.scan.table.length ≤ s.scan.slotIndex + 1

end Sys2Proof.Machine
end

