-- ==== Sys2Proof/Certificates/Slice0/Obligations.lean ====
section
/-! DEFINITION. The statements about the model, for the provers: one definition each. OBLIGATIONS.json lists
them with the rules they rest on. -/

open Sys2Proof Sys2Proof.Machine

/-! ### The step and the queue of commands -/

/-- A step runs the command at the front of the queue on the state with the queue's rest. The queue is the
model's own (notes/assumptions/17.md). -/
def Obligations.StepRunsFrontCommand : Prop :=
  ∀ (s : State) (c : Instr) (rest : List Instr), s.pending = c :: rest → step s = exec c (s.withPending rest)

/-- A step on an empty queue is one scan tick (the model's choice, notes/assumptions/7.md): outside RUNNING
nothing changes; in RUNNING a phase's last tick is the row that ends it, a frame boundary with slot 0's start
after it, and any other tick lowers the ticks remaining by 1, the segment lines turning off when the lit ticks have
passed. A slot 0 left to start by the row FRAME_BOUNDARY starts before the tick, so every frame lasts the ticks of
R7; an on-time whose ticks have all passed, by the row LIT_TICKS_END at lit ticks that fill it, ends before the tick,
so the grid is driven for R11's ticks and no more. -/
def Obligations.EmptyQueueIsScanTick : Prop :=
  ∀ s : State, s.pending = [] →
    (s.scan.state ≠ .running → step s = .next s)
    ∧ (s.scan.state = .running → s.scan.phase = .boundaryTaken →
        ∃ t, exec .slotStart s = .next t ∧ t.pending = [] ∧ step s = step t)
    ∧ (s.scan.state = .running → s.scan.phase = .onTime → s.scan.ticksRemaining = 1 →
        step s = exec (.onTimeEnd s.scan.senseLines) s)
    ∧ (s.scan.state = .running → s.scan.phase = .onTime → s.scan.ticksRemaining = 0 →
        ∃ t, exec (.onTimeEnd s.scan.senseLines) s = .next t ∧ t.pending = [] ∧ t.scan.phase = .gap
          ∧ t.scan.ticksRemaining = s.scan.gapTicks ∧ step s = step t)
    ∧ (s.scan.state = .running → s.scan.phase = .gap → s.scan.ticksRemaining ≤ 1 →
        if s.scan.slotIndex + 1 < s.scan.table.length then step s = exec .slotStart s
        else ∃ t, exec .frameBoundary s = .next t ∧ step s = exec .slotStart t)
    ∧ (s.scan.state = .running → s.scan.phase = .gap → 1 < s.scan.ticksRemaining →
        step s = .next (s.withScan { s.scan with ticksRemaining := s.scan.ticksRemaining - 1 }))
    ∧ (∀ r, s.scan.state = .running → s.scan.phase = .onTime → 1 < s.scan.ticksRemaining →
        s.scan.table[s.scan.slotIndex]? = some r →
        step s = .next (s.withScan { s.scan with
          ticksRemaining := s.scan.ticksRemaining - 1,
          segLines :=
            if s.scan.litTicks ≤ r.onTime - (s.scan.ticksRemaining - 1) then 0 else s.scan.segLines }))

/-- A well-formed command answers a next state and leaves the queue of waiting commands as it was; the one
ill-formed kind, an address outside the host's address space, stops with that fault. No command is refused. The
three are the model's choices: that every row answers in every state (notes/assumptions/4.md), the fault on an
address no host bus carries (notes/assumptions/9.md), the queue of commands itself (notes/assumptions/17.md). -/
def Obligations.WellFormedCommandsComplete : Prop :=
  ∀ (c : Instr) (s : State),
    (c.wellFormed = true → ∃ t, exec c s = .next t ∧ t.pending = s.pending)
    ∧ (c.wellFormed = false → exec c s = .fault .noSuchAddress)

/-! ### Laws every step keeps -/

/-- The state after reset meets every law of Safety.lean. -/
def Obligations.ResetMeetsLaws : Prop :=
  MemoryCanonical State.reset ∧ LinesSafe State.reset ∧ QueueLaw State.reset ∧ KeyLaw State.reset
  ∧ CommandLaw State.reset ∧ CacheLaw State.reset ∧ CacheFollowsMemory State.reset
  ∧ PublishedCellsLaw State.reset

/-- Every step keeps memory in its canonical form. The form is the model's own choice, no rule's: RAM as a list of
bytes, addresses strictly rising, none equal to the 00h that an unwritten byte reads as (notes/assumptions/2.md). -/
def Obligations.MemoryStaysCanonical : Prop :=
  ∀ s t : State, MemoryCanonical s → step s = .next t → MemoryCanonical t

/-- Every step keeps the laws of the lines: R14, R132 and WAIT of R145. -/
def Obligations.LinesStaySafe : Prop :=
  ∀ s t : State, LinesSafe s → step s = .next t → LinesSafe t

/-- Every step keeps the law of R82 with the ranges of R81 and the ring positions of R83. -/
def Obligations.QueueStaysWithinRing : Prop :=
  ∀ s t : State, QueueLaw s → step s = .next t → QueueLaw t

/-- Every step keeps the laws of the key scanner: the ranges of R58 and R59, a tracker with no key at 0 (R58), the
down count at most 8 (R65), the repeat key DOWN (R73). -/
def Obligations.KeysStayLawful : Prop :=
  ∀ s t : State, KeyLaw s → step s = .next t → KeyLaw t

/-- Every step keeps what may run in each state of the command unit (R111), and that no table is in force in OFF
and until a START latch has succeeded (R2, R3, R105). -/
def Obligations.OneCommandRuns : Prop :=
  ∀ s t : State, CommandLaw s → step s = .next t → CommandLaw t

/-- Every step keeps the frame cache's laws: R22, R23, R25 and R32. -/
def Obligations.CacheStaysLawful : Prop :=
  ∀ s t : State, CacheLaw s → step s = .next t → CacheLaw t

/-- Every step keeps the law of R40: what a line has read equals its pattern record in memory. Memory's
canonical form makes a read after a write what was written. -/
def Obligations.CacheFollowsPatternArea : Prop :=
  ∀ s t : State, MemoryCanonical s → CacheFollowsMemory s → step s = .next t → CacheFollowsMemory t

/-- Every step keeps the laws of R116 and R141: a cell with no waiting entry holds the part's own value. -/
def Obligations.PublishedCellsFollowPart : Prop :=
  ∀ s t : State, MemoryCanonical s → PublishedCellsLaw s → step s = .next t → PublishedCellsLaw t

/-! ### Every byte of memory -/

/-- A row that takes a host write writes no byte but the carried lanes of the word the write reaches. -/
def Obligations.HostWriteRowsStoreOnlyTheirWord : Prop :=
  ∀ (c : Instr) (s t : State) (a : Nat) (l : Lanes) (d : Word), MemoryCanonical s →
    HostGranted s (.write a l d) →
    c ∈ [Instr.arbiterDecision, .hostWrite, .publishedCellWrite, .start, .stop, .flip, .reload, .flushQueue,
      .keyReset, .panelReset, .abort, .unknownCommand, .argumentWrite, .pendingCellWrite, .enableCellWrite,
      .consumerCellWrite, .globalLevelWrite, .patternWrite, .tableWrite, .commandCellWrite] →
    exec c s = .next t → StoresOnly s t (wordAddr a) l

/-- A row that ends a write stage write writes no byte but the two of the word the write goes to. -/
def Obligations.PartWriteRowsStoreOnlyTheirWord : Prop :=
  ∀ (c : Instr) (s t : State) (w : WriteTarget) (d : Word) (r : Bool), MemoryCanonical s →
    s.arb.port = .write w d r →
    c ∈ [Instr.writeStageWriteDone, .recordComplete, .queueData, .completingEnds, .flushQueueDone,
      .lengthAccepted, .drainRetry] →
    exec c s = .next t → StoresOnly s t (s.pass.windowBase + targetOffset w) bothLanes

/-- The rows that store nothing leave every byte of memory as it was. -/
def Obligations.OtherRowsStoreNothing : Prop :=
  ∀ (c : Instr) (s t : State),
    (c ∈ [Instr.latchReadComplete, .fillWord0Read, .fillWord1Read, .fillReadDiscarded, .runningBegins,
        .nextFrameReady, .slotStart, .litTicksEnd, .frameBoundary, .switchTimeout, .repeatDue]
      ∨ (∃ k, c = .resetReleased k) ∨ (∃ k, c = .onTimeEnd k)
      ∨ (∃ a l, c = .hostCyclePresented (.read a l))
      ∨ ((∃ a l d, c = .hostCyclePresented (.write a l d)) ∧ s.pass.resetHeld = false)) →
    exec c s = .next t → ∀ x, byteAt t.mem x = byteAt s.mem x

/-! ### RESET -/

/-- RESET_ASSERTED: every block at its line-reset values in one happening. A write stage write under way
leaves its word old or new, whole; a waiting host cycle is then made as presented and handed to no block. The
model's choices in it: the window base, the straps and the zeros of the status record (notes/assumptions/1.md), the
count of free values drawn (3.md), the slot's fields and the latch's purpose (8.md), the data last returned to the
host kept (11.md), the sense inputs kept (14.md), an EMPTY line's index (21.md), the drain's count
of releases 0 with no drain (23.md). -/
def Obligations.ResetAssertedResetsEveryBlock : Prop :=
  ∀ s : State, s.pass.resetHeld = false →
    ∃ (m : Memory) (n : Nat),
      (match s.arb.port with
        | .write w d _ =>
          n = s.freeCount + 1 ∧
            (m = s.mem ∨ m = putLanes s.mem (s.pass.windowBase + targetOffset w) bothLanes d)
        | _ => n = s.freeCount ∧ m = s.mem)
      ∧ exec .resetAsserted s = .next
          { pass :=
              { windowBase := s.pass.windowBase, resetHeld := true, straps := s.pass.straps,
                waiting := none, waitLine := false,
                hostData :=
                  match s.pass.waiting with
                  | some (.read a l) =>
                    ⟨if l.low then some (byteAt m (wordAddr a)) else none,
                     if l.high then some (byteAt m (wordAddr a + 1)) else none⟩
                  | _ => s.pass.hostData },
            arb := ⟨0, 4, .free⟩,
            ws := ⟨[], [], 0⟩,
            cmd := ⟨.completing, 0, none, 0, 0, 0, false, ⟨0, 0, 0, 0⟩⟩,
            latch := ⟨.idle, .start, 0, [], [], []⟩,
            scan :=
              { state := .off, table := [], frameBase := 0, globalLevel := 15, pendingLevel := 15,
                tickDivide := 1, gapTicks := 1, slotIndex := 0, phase := .gap, ticksRemaining := 0,
                captured := none, litTicks := 0, frameCounter := 0, gridLines := 0, segLines := 0,
                senseLines := s.scan.senseLines },
            cache := ⟨List.replicate 64 ⟨.empty, 0, 0, 0, 0, false, false, 0⟩, []⟩,
            switch := ⟨.none, [], 0, 0, 1⟩,
            keys :=
              { table := List.replicate 128 ⟨false, 0, false⟩, jammed := false, refusalMark := false,
                repeatKey := none, framesToRepeat := 0, repeatCount := 0, reset := .idle, released := 0,
                debounce := 1, repeatDelay := 0, repeatInterval := 1, rollover := 2,
                closedHigh := false },
            queue := ⟨16, 0, 0, 0, none, false⟩,
            events := ⟨0, 0, false⟩,
            mem :=
              match s.pass.waiting with
              | some (.write a l d) => putLanes m (wordAddr a) l d
              | _ => m,
            freeCount := n,
            pending := s.pending }

/-- RESET_RELEASED: the straps place the window and the initial publication stands in the cell update list,
its seven items in the order of R126. -/
def Obligations.ResetReleasedPlacesInitialPublication : Prop :=
  ∀ (s : State) (straps : BitVec 4), s.pass.resetHeld = true → s.ws.updates = [] →
    s.events = .lineReset → s.queue = .lineReset → s.cmd = .lineReset →
    s.scan.state = .off → s.scan.table = [] → s.scan.frameBase = 0 →
    exec (.resetReleased straps) s = .next
      ((s.withPass { s.pass with
          resetHeld := false, straps := straps, windowBase := straps.toNat * 65536 }).withWs
        { s.ws with updates :=
          [⟨.pending, .word 0⟩, ⟨.producer, .word 0⟩, ⟨.consumer, .word 0⟩, ⟨.shownBase, .word 0⟩,
           ⟨.scanState, .word 0⟩, ⟨.statusRecord, .status ⟨0, 0, 0, 0⟩ 0⟩, ⟨.command, .word 0⟩] })

/-! ### The memory port -/

/-- HOST_CYCLE_PRESENTED: the cycle waits with WAIT asserted; while RESET is held it is made at once as
presented, handed to no block; an address outside the host's space faults. The model's choices: a cycle presented while one
waits changes nothing, and the fault on an address beyond 20 bits (notes/assumptions/9.md); a data lane that a read
does not enable is held as none (notes/assumptions/11.md). -/
def Obligations.HostCyclePresentedWaits : Prop :=
  ∀ (s : State) (c : HostCycle),
    (c.addr < 1048576 → s.pass.resetHeld = false → s.pass.waiting = none →
      exec (.hostCyclePresented c) s =
        .next (s.withPass { s.pass with waiting := some c, waitLine := true }))
    ∧ (∀ a l d, c = .write a l d → a < 1048576 → s.pass.resetHeld = true →
      exec (.hostCyclePresented c) s = .next (s.withMem (putLanes s.mem (wordAddr a) l d)))
    ∧ (∀ a l, c = .read a l → a < 1048576 → s.pass.resetHeld = true →
      exec (.hostCyclePresented c) s = .next (s.withPass { s.pass with
        hostData := ⟨if l.low then some (byteAt s.mem (wordAddr a)) else none,
                     if l.high then some (byteAt s.mem (wordAddr a + 1)) else none⟩ }))
    ∧ (c.addr < 1048576 → s.pass.resetHeld = false → s.pass.waiting.isSome = true →
      exec (.hostCyclePresented c) s = .next s)
    ∧ (1048576 ≤ c.addr → exec (.hostCyclePresented c) s = .fault .noSuchAddress)

/-- ARBITER_DECISION: the table of R151, with the order of the part classes. A granted host read returns
what memory holds; a granted host write is taken (the rows of the host writes say how). The model's choices: a host
cycle's grant, taking and end are one happening (notes/assumptions/5.md); with no request waiting the row changes
nothing (notes/assumptions/4.md); a data lane the read does not enable is held as none (notes/assumptions/11.md). -/
def Obligations.ArbiterDecisionFollowsTable : Prop :=
  ∀ s : State, s.pass.resetHeld = false → s.arb.port = .free →
    (∀ a l, s.pass.waiting = some (.read a l) →
      (firstPart s = none ∨ s.arb.starveCounter < s.arb.starveLimit) →
      exec .arbiterDecision s = .next
        ((s.withPass { s.pass with
          waiting := none, waitLine := false,
          hostData := ⟨if l.low then some (byteAt s.mem (wordAddr a)) else none,
                       if l.high then some (byteAt s.mem (wordAddr a + 1)) else none⟩ }).withArb
          { s.arb with
            starveCounter :=
              if firstPart s = none then s.arb.starveCounter else s.arb.starveCounter + 1 }))
    ∧ (∀ a l d, s.pass.waiting = some (.write a l d) →
      (firstPart s = none ∨ s.arb.starveCounter < s.arb.starveLimit) →
      exec .arbiterDecision s = .next (takeWrite a l d
        ((s.withPass { s.pass with waiting := none, waitLine := false }).withArb
          { s.arb with
            starveCounter :=
              if firstPart s = none then s.arb.starveCounter else s.arb.starveCounter + 1 })))
    ∧ (∀ p, firstPart s = some p →
      (s.pass.waiting = none ∨ s.arb.starveLimit ≤ s.arb.starveCounter) →
      exec .arbiterDecision s = .next (s.withArb { s.arb with starveCounter := 0, port := partCycle p s }))
    ∧ (firstPart s = none → s.pass.waiting = none → exec .arbiterDecision s = .next s)

/-- The part classes in their order (R151), and the memory cycle each makes, settled at the grant: the next
word of the fill request list's head (R34), the head of the cell update list, word by word for the status record
(R120), or the next word of the head staged event's record in the layout of R156 (R137), the next word of the
latch's read order (R97). -/
def Obligations.GrantedPartCycleIsNextWork : Prop :=
  ∀ s : State, s.pass.resetHeld = false → s.arb.port = .free → s.pass.waiting = none →
    (∀ e es line, s.cache.fills = e :: es → s.cache.lines[e.line]? = some line →
      (e.cls = .demand ∨ (s.ws.updates = [] ∧ s.ws.staging = [] ∧ s.latch.progress ≠ .reading)) →
      exec .arbiterDecision s = .next (s.withArb { s.arb with
        starveCounter := 0, port := .fill e.line line.index line.wordsRead false }))
    ∧ ((∀ e es, s.cache.fills = e :: es → e.cls ≠ .demand) →
      (∀ c v us, s.ws.updates = ⟨c, .word v⟩ :: us →
        exec .arbiterDecision s = .next (s.withArb { s.arb with
          starveCounter := 0, port := .write (.cell c) v false }))
      ∧ (∀ c r k w us, s.ws.updates = ⟨c, .status r k⟩ :: us →
        (k, w) ∈ [(0, r.code), (1, r.result), (2, r.sequence), (3, r.detail)] →
        exec .arbiterDecision s = .next (s.withArb { s.arb with
          starveCounter := 0, port := .write (.status k) w false }))
      ∧ (∀ e es k w n, s.ws.updates = [] → s.ws.staging = e :: es → s.ws.recordProgress = k →
        (e.event.kind, n) ∈ [(KeyEventKind.press, (1 : Byte)), (.release, 2), (.repeatKey, 3), (.jam, 4),
          (.jamClear, 5)] →
        (k, w) ∈ [(0, joinBytes (BitVec.ofNat 8 e.event.key) n),
          (1, joinBytes (BitVec.ofNat 8 e.event.repeatCount) e.sequence), (2, e.stamp),
          (3, joinBytes 0 (BitVec.ofNat 8 e.event.downAfter))] →
        exec .arbiterDecision s = .next (s.withArb { s.arb with
          starveCounter := 0, port := .write (.record e.position k) w false }))
      ∧ (∀ k, s.ws.updates = [] → s.ws.staging = [] → s.latch.progress = .reading →
        s.latch.purpose = .start → k < 12 → s.latch.wordsRead.length = k →
        exec .arbiterDecision s = .next (s.withArb { s.arb with
          starveCounter := 0, port := .latch (0x020 + 2 * k) }))
      ∧ (∀ i j, s.ws.updates = [] → s.ws.staging = [] → s.latch.progress = .reading → j < 3 →
        s.latch.wordsRead.length = (if s.latch.purpose = .start then 12 else 0) + 3 * i + j →
        exec .arbiterDecision s = .next (s.withArb { s.arb with
          starveCounter := 0, port := .latch (0x100 + 8 * i + 2 * j) })))

/-- The table of R146: which owner a host write that carries a lane is handed to, by the window offset of the
word it reaches; outside the window, and with no lane, none. -/
def Obligations.WindowOffsetDecidesOwner : Prop :=
  ∀ (s : State) (a : Nat) (l : Lanes) (k : Nat),
    (k < 16 → s.pass.windowBase = k * 65536 →
      (l.low = true ∨ l.high = true) → s.pass.windowBase ≤ a → a ≤ s.pass.windowBase + 8191 →
      ∀ off, off = (a - s.pass.windowBase) / 2 * 2 →
        (off = 0x000 → destination s a l = .command)
        ∧ (off = 0x002 → destination s a l = .argument)
        ∧ (off ∈ [0x008, 0x00A, 0x00C, 0x00E, 0x018, 0x01C, 0x01E] → destination s a l = .published off)
        ∧ (off = 0x010 → destination s a l = .pendingCell)
        ∧ (off = 0x012 → destination s a l = .enableCell)
        ∧ (off = 0x01A → destination s a l = .consumerCell)
        ∧ (off = 0x024 → destination s a l = .globalLevel)
        ∧ (0x020 ≤ off → off ≤ 0x036 → off ≠ 0x024 →
            destination s a l =
              if s.latch.progress = .reading ∧ s.latch.purpose = .start then .watched off else .plain)
        ∧ (0x100 ≤ off → off ≤ 0x1BF →
            destination s a l = if s.latch.progress = .reading then .watched off else .plain)
        ∧ (0x400 ≤ off → off ≤ 0xBFF → destination s a l = .pattern off)
        ∧ ((off ∈ [0x004, 0x006, 0x014, 0x016] ∨ (0x038 ≤ off ∧ off ≤ 0x0FF)
            ∨ (0x1C0 ≤ off ∧ off ≤ 0x3FF) ∨ 0xC00 ≤ off) → destination s a l = .plain))
    ∧ ((a < s.pass.windowBase ∨ s.pass.windowBase + 8191 < a) → destination s a l = .plain)
    ∧ (l.low = false → l.high = false → destination s a l = .plain)

/-! ### Host writes to cells -/

/-- HOST_WRITE, ARGUMENT_WRITE and ENABLE_CELL_WRITE reach memory as written. The first changes nothing else;
the second replaces the written bytes of the argument copy; the third replaces the enable set by the low lane's
kinds, positions 5 to 7 disregarded, and decides INT afresh, while its high lane alone changes no set. -/
def Obligations.PlainWritesReachMemory : Prop :=
  ∀ (s : State) (a : Nat) (l : Lanes) (d : Word),
    (WriteGranted s a l d .plain → exec .hostWrite s = .next (written s a l d))
    ∧ (WriteGranted s a l d .argument →
      exec .argumentWrite s = .next ((written s a l d).withCmd { s.cmd with
        argCopy := joinBytes (if l.high then highByte d else highByte s.cmd.argCopy)
          (if l.low then lowByte d else lowByte s.cmd.argCopy) }))
    ∧ (WriteGranted s a l d .enableCell →
      exec .enableCellWrite s = .next ((written s a l d).withEvents
        (if l.low then
          { s.events with
            enableSet := (lowByte d).extractLsb' 0 5,
            intLine := intOf s.events.pendingSet ((lowByte d).extractLsb' 0 5) }
        else s.events)))

/-- PUBLISHED_CELL_WRITE: memory receives the part's current value in the written lanes (the table of R140, the
scan state cell as R2 codes it); no entry is placed or replaced and no kind is raised. -/
def Obligations.PublishedCellWriteCarriesPartValue : Prop :=
  ∀ (s : State) (a : Nat) (l : Lanes) (d : Word) (off : Nat) (v : Word) (n : Byte),
    (s.scan.state, n) ∈ [(ScanState.off, (0 : Byte)), (.starting, 1), (.running, 2)] →
    (off, v) ∈ [(0x008, s.cmd.record.code), (0x00A, s.cmd.record.result), (0x00C, s.cmd.record.sequence),
      (0x00E, s.cmd.record.detail), (0x018, BitVec.ofNat 16 s.queue.prod),
      (0x01C, s.scan.frameBase.setWidth 16),
      (0x01E, joinBytes (BitVec.ofNat 8 s.scan.table.length) n)] →
    WriteGranted s a l d (.published off) →
    exec .publishedCellWrite s = .next (written s a l v)

/-- PENDING_CELL_WRITE: the low lane removes the kinds it writes as 1, the high lane removes nothing; memory
receives the resulting set in the written lanes; a waiting entry's value is replaced in place, none is placed;
INT is decided afresh. -/
def Obligations.PendingCellWriteRemovesKinds : Prop :=
  ∀ (s : State) (a : Nat) (l : Lanes) (d : Word), WriteGranted s a l d .pendingCell →
    ∀ p, p = (if l.low then s.events.pendingSet &&& ~~~ (lowByte d).extractLsb' 0 5
        else s.events.pendingSet) →
      exec .pendingCellWrite s = .next
        (((written s a l (p.setWidth 16)).withEvents
          { s.events with pendingSet := p, intLine := intOf p s.events.enableSet }).withWs
          { s.ws with updates := s.ws.updates.map (fun e =>
              if e.cell = .pending then { e with value := .word (p.setWidth 16) } else e) })

/-- CONSUMER_CELL_WRITE: a valid value becomes C, replaces a waiting consumer value in place, and a waiting
drain asks again; an invalid write is rewritten with C and raises QUEUE_ERROR. -/
def Obligations.ConsumerCellWriteIsJudged : Prop :=
  ∀ (s : State) (a : Nat) (l : Lanes) (d v : Word), WriteGranted s a l d .consumerCell →
    v = joinBytes (if l.high then highByte d else highByte (BitVec.ofNat 16 s.queue.cons))
      (if l.low then lowByte d else lowByte (BitVec.ofNat 16 s.queue.cons)) →
    (v.toNat < s.queue.len →
      (v.toNat + s.queue.len - s.queue.cons) % s.queue.len ≤ queueCount s.queue →
      exec .consumerCellWrite s = .next (askDrain
        (((written s a l d).withQueue { s.queue with cons := v.toNat }).withWs
          { s.ws with updates := s.ws.updates.map (fun e =>
              if e.cell = .consumer then { e with value := .word v } else e) })))
    ∧ (¬ (v.toNat < s.queue.len ∧
          (v.toNat + s.queue.len - s.queue.cons) % s.queue.len ≤ queueCount s.queue) →
      exec .consumerCellWrite s =
        .next (raise .queueError (written s a l (BitVec.ofNat 16 s.queue.cons))))

/-- GLOBAL_LEVEL_WRITE: a write with the low lane sets the pending level, at most 15; the level in force does
not change; a START latch that has read the cell finds it torn (as TABLE_WRITE). The IDLE latch's purpose, held as START, is the
model's choice (notes/assumptions/8.md). -/
def Obligations.GlobalLevelWriteSetsPending : Prop :=
  ∀ (s t : State) (a : Nat) (l : Lanes) (d : Word), WriteGranted s a l d .globalLevel →
    t = (written s a l d).withScan { s.scan with
        pendingLevel :=
          if l.low then min 15 (if l.high then d.toNat else (lowByte d).toNat)
          else s.scan.pendingLevel } →
    (¬ (s.latch.progress = .reading ∧ s.latch.purpose = .start ∧ 0x024 ∈ s.latch.wordsRead) →
      exec .globalLevelWrite s = .next t)
    ∧ (s.latch.progress = .reading → s.latch.purpose = .start → 0x024 ∈ s.latch.wordsRead →
      s.latch.restarts < 3 →
      exec .globalLevelWrite s = .next (t.withLatch
        ⟨.reading, .start, s.latch.restarts + 1, [], [], []⟩))
    ∧ (s.latch.progress = .reading → s.latch.purpose = .start → 0x024 ∈ s.latch.wordsRead →
      3 ≤ s.latch.restarts →
      exec .globalLevelWrite s = .next (completeTaken .tableUnstable 0x024
        (publish .scanState ((t.withLatch .idle).withScan
          { t.scan with state := .off, gridLines := 0, segLines := 0 }))))

/-- PATTERN_WRITE: memory receives the data; the line that holds the record takes the written lanes when it
has read the word, and no other field of any line changes. -/
def Obligations.PatternWriteIsFollowed : Prop :=
  ∀ (s : State) (a : Nat) (l : Lanes) (d : Word) (off : Nat), WriteGranted s a l d (.pattern off) →
    ∃ t, exec .patternWrite s = .next t
      ∧ t = (written s a l d).withCache { s.cache with lines := t.cache.lines }
      ∧ t.cache.lines.length = s.cache.lines.length
      ∧ ∀ (n : Nat) (x : Line), s.cache.lines[n]? = some x →
          t.cache.lines[n]? = some
            (if x.state ≠ .empty ∧ x.index.toNat = (off - 0x400) / 4 % 512 ∧
                (x.state = .valid ∨ (off - 0x400) % 4 / 2 < x.wordsRead) then
              if (off - 0x400) % 4 / 2 = 0 then
                { x with
                  segments := joinSegs (segByte x.segments 2)
                    (if l.high then highByte d else segByte x.segments 1)
                    (if l.low then lowByte d else segByte x.segments 0) }
              else
                { x with
                  segments := joinSegs (if l.low then lowByte d else segByte x.segments 2)
                    (segByte x.segments 1) (segByte x.segments 0),
                  level := if l.high then highByte d else x.level }
            else x)

/-- TABLE_WRITE: a write of a watched word reaches memory; on a word already read it is a torn read, which
restarts the latch up to three times and then ends it with TABLE_UNSTABLE and the word's offset. The IDLE latch's purpose, held as START, is the
model's choice (notes/assumptions/8.md). -/
def Obligations.TableWriteTearsLatch : Prop :=
  ∀ (s : State) (a : Nat) (l : Lanes) (d : Word) (off : Nat), WriteGranted s a l d (.watched off) →
    (off ∉ s.latch.wordsRead → exec .tableWrite s = .next (written s a l d))
    ∧ (off ∈ s.latch.wordsRead → s.latch.restarts < 3 →
      exec .tableWrite s = .next ((written s a l d).withLatch
        ⟨.reading, s.latch.purpose, s.latch.restarts + 1, [], [], []⟩))
    ∧ (off ∈ s.latch.wordsRead → 3 ≤ s.latch.restarts → s.latch.purpose = .start →
      exec .tableWrite s = .next (completeTaken .tableUnstable (BitVec.ofNat 16 off)
        (publish .scanState (((written s a l d).withLatch .idle).withScan
          { s.scan with state := .off, gridLines := 0, segLines := 0 }))))
    ∧ (off ∈ s.latch.wordsRead → 3 ≤ s.latch.restarts → s.latch.purpose = .reload →
      exec .tableWrite s = .next (completeTaken .tableUnstable (BitVec.ofNat 16 off)
        ((written s a l d).withLatch .idle)))

/-! ### Commands -/

/-- START taken in OFF publishes STARTING and begins a START latch; RELOAD taken in RUNNING begins a RELOAD
latch. START in RUNNING and RELOAD in OFF are refused. -/
def Obligations.StartAndReloadBeginLatch : Prop :=
  ∀ (s : State) (a : Nat) (l : Lanes) (d : Word), s.cmd.unit = .idle →
    (CommandWritten s a l d 1 → s.scan.state = .off →
      exec .start s = .next ((publish .scanState ((commandTaken s a l d 1).withScan
        { s.scan with state := .starting })).withLatch ⟨.reading, .start, 0, [], [], []⟩))
    ∧ (CommandWritten s a l d 1 → s.scan.state = .running →
      exec .start s = .next (complete 1 .refusedState 0 (commandTaken s a l d 1)))
    ∧ (CommandWritten s a l d 4 → s.scan.state = .running →
      exec .reload s = .next
        ((commandTaken s a l d 4).withLatch ⟨.reading, .reload, 0, [], [], []⟩))
    ∧ (CommandWritten s a l d 4 → s.scan.state = .off →
      exec .reload s = .next (complete 4 .refusedState 0 (commandTaken s a l d 4)))

/-- STOP taken in RUNNING: all lines off, OFF, no table in force, CURRENT pins removed, debounce counts, held
marks, refusal mark and repeat tracker cleared, DONE. In OFF it is refused. That the slot's fields and phase are kept
outside RUNNING is the model's choice (notes/assumptions/8.md). -/
def Obligations.StopTurnsPanelOff : Prop :=
  ∀ (s : State) (a : Nat) (l : Lanes) (d : Word), CommandWritten s a l d 2 → s.cmd.unit = .idle →
    (s.scan.state = .running →
      exec .stop s = .next (complete 2 .done 0 (publish .scanState (removePins .current
        (((commandTaken s a l d 2).withScan (scanOff s.scan)).withKeys { s.keys with
          table := s.keys.table.map (fun x => ⟨x.down, 0, false⟩), refusalMark := false,
          repeatKey := none, framesToRepeat := 0, repeatCount := 0 })))))
    ∧ (s.scan.state = .off →
      exec .stop s = .next (complete 2 .refusedState 0 (commandTaken s a l d 2)))

/-- FLIP taken: refused in OFF, BAD_ARGUMENT above 511, otherwise preparation of the table in force under the
argument copy begins, READY at once when every NEXT line is VALID. -/
def Obligations.FlipPreparesNextFrame : Prop :=
  ∀ (s : State) (a : Nat) (l : Lanes) (d : Word), CommandWritten s a l d 3 → s.cmd.unit = .idle →
    (s.scan.state = .off →
      exec .flip s = .next (complete 3 .refusedState 0 (commandTaken s a l d 3)))
    ∧ (s.scan.state = .running → 512 ≤ s.cmd.argCopy.toNat →
      exec .flip s = .next (complete 3 .badArgument 0 (commandTaken s a l d 3)))
    ∧ (s.scan.state = .running → s.cmd.argCopy.toNat ≤ 511 →
      ∀ t, t = setPins .next (indexSet s.scan.table (s.cmd.argCopy.setWidth 9))
          ((commandTaken s a l d 3).withSwitch
            ⟨.preparing, s.scan.table, s.cmd.argCopy.setWidth 9, 0, s.switch.timeout⟩) →
        exec .flip s = .next
          (if ∀ x ∈ t.cache.lines, x.next = true → x.state = .valid then
            t.withSwitch { t.switch with state := .ready }
          else t))

/-- FLUSH_QUEUE taken: C becomes P and the consumer cell is published, BUSY. When that entry has been written
FLUSH_QUEUE_DONE completes it with DONE, detail 0. -/
def Obligations.FlushQueueEmptiesRing : Prop :=
  ∀ s : State,
    (∀ a l d, CommandWritten s a l d 5 → s.cmd.unit = .idle →
      exec .flushQueue s = .next (publish .consumer ((commandTaken s a l d 5).withQueue
        { s.queue with cons := s.queue.prod })))
    ∧ (∀ d, s.arb.port = .write (.cell .consumer) d false → s.cmd.unit = .busy → s.cmd.taken = some 5 →
      exec .flushQueueDone s = .next (complete 5 .done 0 ((cellStored s 0x01A d).withWs
        { s.ws with updates := s.ws.updates.filter (fun e => e.cell ≠ .consumer) })))

/-- KEY_RESET taken: counts, held marks, refusal mark and repeat tracker are cleared and the drain begins at
key 0 (`KeyResetDrainsInKeyOrder` says how it goes on). With no key DOWN and no jam it completes at once. -/
def Obligations.KeyResetClearsAndDrains : Prop :=
  ∀ (s t : State) (a : Nat) (l : Lanes) (d : Word), CommandWritten s a l d 6 → s.cmd.unit = .idle →
    t = (commandTaken s a l d 6).withKeys { s.keys with
        table := s.keys.table.map (fun x => ⟨x.down, 0, false⟩), refusalMark := false,
        repeatKey := none, framesToRepeat := 0, repeatCount := 0, reset := .draining 0, released := 0 } →
    exec .keyReset s = .next (askDrain t)
    ∧ ((∀ x ∈ s.keys.table, x.down = false) → s.keys.jammed = false →
      exec .keyReset s = .next (complete 6 .done 0 (t.withKeys { t.keys with reset := .idle })))

/-- A drain passes UP keys, releases a DOWN key under a reservation, waits at it when there is no room, and
after key 127 clears a jam under a reservation and completes with the number of releases. DRAIN_RETRY: a waiting
drain asks again; where there is no room, the happening that can make room is taken, and the drain asks at its
end (notes/assumptions/6.md). The count of releases, held as 0 once the drain is over, is the model's choice
(notes/assumptions/23.md). -/
def Obligations.KeyResetDrainsInKeyOrder : Prop :=
  ∀ s : State, s.keys.table.length = 128 →
    (s.keys.reset ≠ .idle →
      (canReserve s = true → exec .drainRetry s = .next (askDrain s))
      ∧ (∀ p d r, canReserve s = false → s.arb.port = .write (.record p 3) d r →
        exec .drainRetry s = exec .writeStageWriteDone s)
      ∧ (∀ a l d v, canReserve s = false → WriteGranted s a l d .consumerCell →
        v = mergeLanes l d (BitVec.ofNat 16 s.queue.cons) → v.toNat < s.queue.len →
        (v.toNat + s.queue.len - s.queue.cons) % s.queue.len ≤ queueCount s.queue →
        exec .drainRetry s = exec .consumerCellWrite s))
    ∧ (∀ k x, s.keys.reset = .draining k → s.keys.table[k]? = some x → x.down = false →
      askDrain s = askDrain (s.withKeys { s.keys with reset := .draining (k + 1) }))
    ∧ (∀ k x, s.keys.reset = .draining k → s.keys.table[k]? = some x → x.down = true →
        canReserve s = true →
      askDrain s = askDrain ((stage ⟨.release, k, 0, downCount s - 1⟩ s).withKeys { s.keys with
        table := s.keys.table.set k ⟨false, x.count, x.held⟩, released := s.keys.released + 1,
        reset := .draining (k + 1) }))
    ∧ (∀ k x, s.keys.reset = .draining k → s.keys.table[k]? = some x → x.down = true →
        canReserve s = false → askDrain s = s)
    ∧ ((s.keys.reset = .draining 128 ∨ s.keys.reset = .clearingJam) →
      (s.keys.jammed = false →
        askDrain s = complete (s.cmd.taken.getD 0) .done (BitVec.ofNat 16 s.keys.released)
          (s.withKeys { s.keys with reset := .idle, released := 0 }))
      ∧ (s.keys.jammed = true → canReserve s = true →
        askDrain s = complete (s.cmd.taken.getD 0) .done (BitVec.ofNat 16 s.keys.released)
          ((stage ⟨.jamClear, 255, 0, 0⟩ s).withKeys
            { s.keys with jammed := false, reset := .idle, released := 0 }))
      ∧ (s.keys.jammed = true → canReserve s = false →
        askDrain s = s.withKeys { s.keys with reset := .clearingJam }))

/-- PANEL_RESET taken: every block takes its panel-reset values, the re-publication and then the completion
are placed. Configuration in force, enable set, argument copy, window and arbiter are kept. The model's choices: the
EMPTY lines' pattern index 0 (notes/assumptions/21.md); the IDLE latch's purpose START, and the slot's fields and
phase kept outside RUNNING (notes/assumptions/8.md); the drain's count of releases 0 with no drain
(notes/assumptions/23.md). -/
def Obligations.PanelResetResetsBlocks : Prop :=
  ∀ (s t : State) (a : Nat) (l : Lanes) (d : Word), CommandWritten s a l d 7 → s.cmd.unit = .idle →
    t = { commandTaken s a l d 7 with
      scan := { scanOff s.scan with
        frameBase := 0, frameCounter := 0, globalLevel := 15, pendingLevel := 15 },
      cache := ⟨List.replicate 64 ⟨.empty, 0, 0, 0, 0, false, false, 0⟩, []⟩,
      switch := ⟨.none, [], 0, 0, s.switch.timeout⟩,
      keys := { s.keys with
        table := List.replicate 128 ⟨false, 0, false⟩, jammed := false, refusalMark := false,
        repeatKey := none, framesToRepeat := 0, repeatCount := 0, reset := .idle, released := 0 },
      queue := { s.queue with
        prod := 0, cons := 0, nextSeq := 0, acceptance := none, announce := false },
      latch := ⟨.idle, .start, 0, [], [], []⟩,
      ws := { s.ws with staging := [], recordProgress := 0 },
      events := { s.events with pendingSet := 0, intLine := false } } →
    exec .panelReset s = .next (complete 7 .done 0 (placeUpdate .pending (.word 0)
      (placeUpdate .consumer (.word 0) (placeUpdate .producer (.word 0)
        (placeUpdate .scanState (.word 0) (placeUpdate .shownBase (.word 0) t))))))

/-- ABORT: in IDLE it completes with NOTHING_TO_ABORT; in BUSY it ends the running command as its owner rules
and completes under code 8 with the ended command as detail; in COMPLETING it is rewritten in silence. The model's
choices: that this row takes such a write (notes/assumptions/5.md); the IDLE latch's purpose START, and the slot's
fields and phase kept outside RUNNING (8.md); the drain's count of releases 0 once it is ended (23.md). -/
def Obligations.AbortEndsRunningCommand : Prop :=
  ∀ (s t : State) (a : Nat) (l : Lanes) (d : Word), CommandWritten s a l d 8 →
    t = (written s a l d).withCmd { s.cmd with cellValue := 8 } →
    (s.cmd.unit = .idle →
      exec .abort s = .next (complete 8 .nothingToAbort 0 (commandTaken s a l d 8)))
    ∧ (s.cmd.unit = .busy → s.cmd.taken = some 1 →
        (s.latch.progress = .reading ∨ s.latch.progress = .holding) →
      exec .abort s = .next (complete 8 .done 1 (publish .scanState
        (((t.withQueue { s.queue with acceptance := none }).withLatch .idle).withScan
          (scanOff s.scan)))))
    ∧ (s.cmd.unit = .busy → s.cmd.taken = some 1 → s.latch.progress = .warming →
      exec .abort s = .next (complete 8 .done 1 (publish .scanState
        (((removePins .current t).withLatch .idle).withScan (scanOff s.scan)))))
    ∧ (∀ c, c = 3 ∨ c = 4 → s.cmd.unit = .busy → s.cmd.taken = some c → s.latch.progress ≠ .reading →
      exec .abort s = .next (complete 8 .done c
        (removePins .next (t.withSwitch ⟨.none, [], 0, 0, s.switch.timeout⟩))))
    ∧ (s.cmd.unit = .busy → s.cmd.taken = some 4 → s.latch.progress = .reading →
      exec .abort s = .next (complete 8 .done 4 (t.withLatch .idle)))
    ∧ (s.cmd.unit = .busy → s.cmd.taken = some 5 → exec .abort s = .next (complete 8 .done 5 t))
    ∧ (s.cmd.unit = .busy → s.cmd.taken = some 6 →
      exec .abort s = .next (complete 8 .done 6
        (t.withKeys { s.keys with reset := .idle, released := 0 })))
    ∧ (s.cmd.unit = .completing → exec .abort s = .next (written s a l s.cmd.cellValue))

/-- UNKNOWN_COMMAND: in IDLE a value of 9 to 65535 is taken and completes with UNKNOWN, detail 0.
COMMAND_CELL_WRITE: in IDLE a write whose resulting value is 0 reaches memory and does nothing else. In BUSY
and COMPLETING every command but ABORT is rewritten with the cell value in the written lanes, the running
command untouched, and COLLISION is raised when the write is non-zero. COMMAND_CELL_WRITE leaves a write whose
resulting value is 8 waiting: which rows take a write is the model's choice (notes/assumptions/5.md). -/
def Obligations.UnknownAndRefusedCommandWrites : Prop :=
  ∀ (s : State) (a : Nat) (l : Lanes) (d code : Word), CommandWritten s a l d code →
    (s.cmd.unit = .idle → code = 0 → exec .commandCellWrite s = .next (written s a l d))
    ∧ (s.cmd.unit = .idle → 9 ≤ code.toNat →
      exec .unknownCommand s = .next (complete code .unknown 0 (commandTaken s a l d code)))
    ∧ (s.cmd.unit ≠ .idle → code = 8 → exec .commandCellWrite s = .next s)
    ∧ (s.cmd.unit ≠ .idle → code ≠ 8 →
      ∀ c : Instr,
        (c = .commandCellWrite
          ∨ (c, code) ∈ [(Instr.start, (1 : Word)), (.stop, 2), (.flip, 3), (.reload, 4),
              (.flushQueue, 5), (.keyReset, 6), (.panelReset, 7)]
          ∨ (c = .unknownCommand ∧ 9 ≤ code.toNat)) →
        exec c s = .next
          (if (l.low = true ∧ lowByte d ≠ 0) ∨ (l.high = true ∧ highByte d ≠ 0) then
            raise .collision (written s a l s.cmd.cellValue)
          else written s a l s.cmd.cellValue))

/-- A completion (R119): the status sequence rises by 1, the record, its result by the codes of 11.5, goes into the
list and the clearing of the command cell after it, announce becomes yes, the state COMPLETING, and no other block
changes. COMPLETING_ENDS: when the clearing write ends the unit is IDLE with cell value 0 and no command taken, and
COMMAND_DONE is raised when the announce mark is yes. That WRITE_STAGE_WRITE_DONE does this end too is the model's
reading (DEDUCED, notes/assumptions/6.md). -/
def Obligations.CompletionPlacesStatusThenClears : Prop :=
  ∀ (s : State) (code : Word) (r : Result) (detail n : Word),
    (r, n) ∈ [(Result.reset, (0 : Word)), (.done, 1), (.refusedState, 2), (.configError, 3),
      (.tableUnstable, 4), (.late, 5), (.unknown, 6), (.badArgument, 7), (.nothingToAbort, 8)] →
    (∀ t d, s.arb.port = .write (.cell .command) d false →
      t = ((cellStored s 0x000 d).withWs
          { s.ws with updates := s.ws.updates.filter (fun e => e.cell ≠ .command) }).withCmd
        { s.cmd with unit := .idle, cellValue := 0, taken := none } →
      exec .completingEnds s = .next (if s.cmd.announce then raise .commandDone t else t)
      ∧ exec .writeStageWriteDone s = exec .completingEnds s)
    ∧ (hasEntry .statusRecord s.ws.updates = false → hasEntry .command s.ws.updates = false →
    complete code r detail s =
      (s.withCmd { s.cmd with
        unit := .completing, announce := true, statusSeq := s.cmd.statusSeq + 1,
        record := ⟨code, n, s.cmd.statusSeq + 1, detail⟩ }).withWs
        { s.ws with updates := s.ws.updates ++
          [⟨.statusRecord, .status ⟨code, n, s.cmd.statusSeq + 1, detail⟩ 0⟩,
           ⟨.command, .word 0⟩] })

/-! ### Events and the cell update list -/

/-- Raising a kind (R128), at its position of R157. A kind already pending leaves no trace. Otherwise it joins the
set, INT follows, and the pending cell's update is placed, or its waiting value replaced in place; a write of the
pending cell under way is then of a replaced value (R138), which the model keeps as a mark on it
(notes/assumptions/13.md). No other block changes. -/
def Obligations.RaiseJoinsPendingSet : Prop :=
  ∀ (s t : State) (k : EventKind) (i : Nat) (p : BitVec 5),
    (k, i) ∈ [(EventKind.commandDone, 0), (.queueData, 1), (.queueError, 2), (.collision, 3), (.underrun, 4)] →
    p = s.events.pendingSet ||| 1 <<< i →
    t = s.withEvents ⟨p, s.events.enableSet, decide (p &&& s.events.enableSet ≠ 0)⟩ →
    (s.events.pendingSet.getLsbD i = true → raise k s = s)
    ∧ (s.events.pendingSet.getLsbD i = false → (∀ e ∈ s.ws.updates, e.cell ≠ .pending) →
      raise k s = t.withWs { s.ws with updates := s.ws.updates ++ [⟨.pending, .word (p.setWidth 16)⟩] })
    ∧ (s.events.pendingSet.getLsbD i = false → (∃ e ∈ s.ws.updates, e.cell = .pending) →
      raise k s = (t.withWs { s.ws with updates := s.ws.updates.map (fun e =>
          if e.cell = .pending then { e with value := .word (p.setWidth 16) } else e) }).withArb
        { s.arb with port :=
          match s.arb.port with
          | .write (.cell .pending) d _ => .write (.cell .pending) d true
          | c => c })

/-- Placing an update (R136): the cells of the list stand in the order in which they first entered it, a
waiting value is replaced in place, and the cell's entry carries the value placed last. -/
def Obligations.PlacedUpdateKeepsOrder : Prop :=
  ∀ (s : State) (c : Cell) (v : EntryValue), (s.ws.updates.map Entry.cell).Nodup →
    ((placeUpdate c v s).ws.updates.map Entry.cell).Nodup
    ∧ (placeUpdate c v s).ws.updates.map Entry.cell =
        (if c ∈ s.ws.updates.map Entry.cell then s.ws.updates.map Entry.cell
        else s.ws.updates.map Entry.cell ++ [c])
    ∧ (∀ e ∈ (placeUpdate c v s).ws.updates, e.cell = c → e.value = v)
    ∧ (∀ e, e.cell ≠ c → (e ∈ (placeUpdate c v s).ws.updates ↔ e ∈ s.ws.updates))
    ∧ (placeUpdate c v s).ws.updates.length ≤ 7

/-! ### The table latch -/

/-- LATCH_READ_COMPLETE: the word memory holds is placed into the config image or the pending table and its
offset joins the words read; a word that belongs to no latch is discarded. The pattern offset and on-time that a
record holds as 0 until its words +2 and +4 are read are the model's choice (notes/assumptions/22.md). -/
def Obligations.LatchReadPlacesWord : Prop :=
  ∀ (s : State) (off : Nat) (w : Word), s.arb.port = .latch off →
    w = wordAt s.mem (s.pass.windowBase + off) →
    (s.latch.progress ≠ .reading → exec .latchReadComplete s = .next (portFreed s))
    ∧ (s.latch.progress = .reading → off < 0x100 →
      exec .latchReadComplete s = .next ((portFreed s).withLatch { s.latch with
        wordsRead := s.latch.wordsRead ++ [off], image := s.latch.image ++ [w] }))
    ∧ (s.latch.progress = .reading → 0x100 ≤ off → off % 8 = 0 →
      exec .latchReadComplete s = .next ((portFreed s).withLatch { s.latch with
        wordsRead := s.latch.wordsRead ++ [off],
        table := s.latch.table ++ [⟨lowByte w, highByte w, 0, 0⟩] }))
    ∧ (∀ rs r, s.latch.progress = .reading → 0x100 ≤ off → off % 8 = 2 → s.latch.table = rs ++ [r] →
      exec .latchReadComplete s = .next ((portFreed s).withLatch { s.latch with
        wordsRead := s.latch.wordsRead ++ [off], table := rs ++ [{ r with offset := w }] }))
    ∧ (∀ rs r, s.latch.progress = .reading → 0x100 ≤ off → off % 8 = 4 → s.latch.table = rs ++ [r] →
      r.flags.getLsbD 1 = false → rs.length ≠ 23 →
      exec .latchReadComplete s = .next ((portFreed s).withLatch { s.latch with
        wordsRead := s.latch.wordsRead ++ [off], table := rs ++ [{ r with onTime := w }] }))

/-- The first configuration word outside its accepted values (R102), and otherwise the first check of R103 that
a record fails, ends the latch with CONFIG_ERROR and its window offset. For START the scan state becomes OFF and
no value takes force; for RELOAD the frame in force is untouched. The IDLE latch's purpose, held as START, is the
model's choice (notes/assumptions/8.md). -/
def Obligations.ConfigErrorNamesFirstFault : Prop :=
  ∀ (s t : State) (off : Nat) (l : TableLatch), LastRead s off l →
    l.image.length = (if l.purpose = .start then 12 else 0) →
    t = (portFreed s).withLatch ⟨.idle, .start, 0, [], [], []⟩ →
    (∀ k, l.purpose = .start → k < 12 → (∀ j < k, ConfigWordAccepted l.image j) →
      ¬ ConfigWordAccepted l.image k →
      exec .latchReadComplete s = .next (completeTaken .configError (BitVec.ofNat 16 (0x020 + 2 * k))
        (publish .scanState (t.withScan { s.scan with state := .off, gridLines := 0, segLines := 0 }))))
    ∧ (∀ i r bad, ConfigPasses l →
      (∀ j q, j < i → l.table[j]? = some q → recordFault l.table j q = none) →
      l.table[i]? = some r → recordFault l.table i r = some bad →
      exec .latchReadComplete s = .next (completeTaken .configError (BitVec.ofNat 16 bad)
        (if l.purpose = .start then
          publish .scanState (t.withScan { s.scan with state := .off, gridLines := 0, segLines := 0 })
        else t)))

/-- A START latch whose checks pass hands over its length. Accepted at once, every latched value takes force,
a changed length empties the ring, the updates of the success are placed in their order and the warm-up follows
(`LatchedInForce` says all of it); otherwise it waits, HOLDING, with no value in force. Where RUNNING begins, the
IDLE latch's purpose START and the phase between a boundary and slot 0 are the model's choices
(notes/assumptions/8.md). -/
def Obligations.StartLatchTakesForce : Prop :=
  ∀ (s : State) (off : Nat) (l : TableLatch) (w : Word), LastRead s off l → l.purpose = .start →
    l.image.length = 12 → ConfigPasses l → TablePasses l.table → l.image[8]? = some w →
    s.scan.state = .starting →
    ((w.toNat = s.queue.len ∨ s.ws.staging = []) → s.queue.acceptance = none →
      ∃ t, exec .latchReadComplete s = .next t ∧ LatchedInForce (portFreed s) t l.image l.table)
    ∧ (w.toNat ≠ s.queue.len → s.ws.staging ≠ [] →
      exec .latchReadComplete s = .next (((portFreed s).withLatch { l with progress := .holding }).withQueue
        { s.queue with acceptance := some w.toNat }))

/-- LENGTH_ACCEPTED: the end of the last staged record's fourth word completes the record (R85) and empties the
staging list, the queue accepts the waiting length, and the START latch succeeds in that happening. The model's
choices are those of `StartLatchTakesForce` (notes/assumptions/8.md). That the row is the whole end of the record's
fourth word is the model's reading (DEDUCED, notes/assumptions/6.md). -/
def Obligations.LengthAcceptedAtLastRecord : Prop :=
  ∀ (s : State) (e : StagedEvent) (p : Nat) (d w : Word) (r : Bool),
    s.arb.port = .write (.record p 3) d r → s.ws.staging = [e] → s.latch.progress = .holding →
    s.latch.purpose = .start → s.latch.image.length = 12 → s.latch.image[8]? = some w →
    s.queue.acceptance = some w.toNat → w.toNat ≠ (s.queue.len : Nat) → s.scan.state = .starting →
    s.keys.reset = .idle → ConfigPasses s.latch →
    ∃ t, exec .lengthAccepted s = .next t
      ∧ LatchedInForce (placeUpdate .producer (.word (BitVec.ofNat 16 ((s.queue.prod + 1) % s.queue.len)))
          (((cellStored s (0x206 + 8 * p) d).withWs { s.ws with staging := [], recordProgress := 0 }).withQueue
            { s.queue with prod := (s.queue.prod + 1) % s.queue.len, announce := true }))
        t s.latch.image s.latch.table

/-- A RELOAD latch whose checks pass hands the pending table to the frame switch, which prepares it under the
frame base in force. The IDLE latch's purpose, held as START, is the model's choice (notes/assumptions/8.md). -/
def Obligations.ReloadLatchPreparesTable : Prop :=
  ∀ (s t : State) (off : Nat) (l : TableLatch), LastRead s off l → l.purpose = .reload →
    TablePasses l.table →
    t = setPins .next (indexSet (l.table.map checkedSlot) s.scan.frameBase)
      (((portFreed s).withLatch ⟨.idle, .start, 0, [], [], []⟩).withSwitch
        ⟨.preparing, l.table.map checkedSlot, s.scan.frameBase, 0, s.switch.timeout⟩) →
    exec .latchReadComplete s = .next
      (if ∀ x ∈ t.cache.lines, x.next = true → x.state = .valid then
        t.withSwitch { t.switch with state := .ready }
      else t)

/-! ### The frame cache -/

/-- FILL_WORD0_READ places segments 0 to 15 into the line, words read 1, FILLING kept. FILL_READ_DISCARDED
changes no line: the read of a withdrawn fill ends with its data discarded. -/
def Obligations.FillWordZeroPlacesSegments : Prop :=
  ∀ (s : State) (n : Nat) (idx : PatternIndex) (x : Line) (w : Word),
    (s.arb.port = .fill n idx 0 false → s.cache.lines[n]? = some x → x.state = .filling →
      x.wordsRead = 0 → w = wordAt s.mem (s.pass.windowBase + (0x400 + 4 * idx.toNat)) →
      exec .fillWord0Read s = .next ((portFreed s).withCache { s.cache with
        lines := s.cache.lines.set n
          { x with segments := joinSegs (segByte x.segments 2) (highByte w) (lowByte w), wordsRead := 1 } }))
    ∧ (∀ k, s.arb.port = .fill n idx k true → exec .fillReadDiscarded s = .next (portFreed s))

/-- FILL_WORD1_READ places segments 16 to 23 and the raw level: the line is VALID and its entry leaves the list.
When that makes the current frame resident in STARTING the happening is RUNNING_BEGINS: START completes with the
restart count, RUNNING is published and slot 0 starts. When it makes the next frame resident it is NEXT_FRAME_READY:
the record becomes READY. The IDLE latch's purpose START and the phase before slot 0 are the model's choices
(notes/assumptions/8.md). That either row is the whole word 1 read is the model's reading (DEDUCED,
notes/assumptions/6.md). -/
def Obligations.FillWordOneMakesLineValid : Prop :=
  ∀ (s u : State) (n : Nat) (idx : PatternIndex) (x : Line) (w : Word),
    s.arb.port = .fill n idx 1 false → s.cache.lines[n]? = some x → x.state = .filling →
    x.wordsRead = 1 → w = wordAt s.mem (s.pass.windowBase + (0x400 + 4 * idx.toNat + 2)) →
    u = (portFreed s).withCache
      { lines := s.cache.lines.set n
          { x with
            segments := joinSegs (lowByte w) (segByte x.segments 1) (segByte x.segments 0),
            level := highByte w, wordsRead := 2, state := .valid },
        fills := s.cache.fills.filter (fun e => e.line ≠ n) } →
    (¬ (s.scan.state = .starting ∧ s.scan.table ≠ [] ∧ x.current = true
          ∧ ∀ y ∈ u.cache.lines, y.current = true → y.state = .valid) →
      ¬ (s.switch.state = .preparing ∧ x.next = true
          ∧ ∀ y ∈ u.cache.lines, y.next = true → y.state = .valid) →
      exec .fillWord1Read s = .next u)
    ∧ (s.scan.state = .starting → s.scan.table ≠ [] → x.current = true →
      (∀ y ∈ u.cache.lines, y.current = true → y.state = .valid) → s.switch.state = .none →
      exec .runningBegins s = .next (startSlot 0 (completeTaken .done (BitVec.ofNat 16 s.latch.restarts)
        (publish .scanState ((u.withLatch ⟨.idle, .start, 0, [], [], []⟩).withScan { s.scan with
          state := .running, frameCounter := 0, globalLevel := s.scan.pendingLevel, slotIndex := 0,
          phase := .boundaryTaken, ticksRemaining := 0 }))))
      ∧ exec .fillWord1Read s = exec .runningBegins s)
    ∧ (s.switch.state = .preparing → x.next = true →
      (∀ y ∈ u.cache.lines, y.next = true → y.state = .valid) → s.scan.state ≠ .starting →
      exec .nextFrameReady s = .next (u.withSwitch { s.switch with state := .ready })
      ∧ exec .fillWord1Read s = exec .nextFrameReady s)

/-- A pin request (R24, R25): while the pinned lines and the set fit the cache, every index of the set ends on a
line that carries the pin, dated now, and every line pinned before keeps its pattern, its contents and its
pins. An index that a line holds gives that line the pin and its date; an index that none holds takes the line R25
chooses, whose fields are R24's and whose entry joins the list as R32 says. A longer set is taken index by index,
the held ones first, the others in slot order. The set a frame names is the distinct indices, base + offset modulo
512, of its slots, dark ones included, in slot order (2.2). -/
def Obligations.PinRequestCoversSet : Prop :=
  (∀ (s : State) (p : Pin) (set : List PatternIndex), CacheLaw s → set.Nodup →
    s.cache.lines.countP (fun x => pinned x) + set.length ≤ 64 →
    (∀ i ∈ set, ∃ x ∈ (setPins p set s).cache.lines,
      x.state ≠ .empty ∧ x.index = i ∧ hasPin p x = true ∧ x.lastUse = s.scan.frameCounter)
    ∧ (∀ (n : Nat) (x : Line), s.cache.lines[n]? = some x → pinned x = true →
      ∃ y, (setPins p set s).cache.lines[n]? = some y
        ∧ y.state = x.state ∧ y.index = x.index ∧ y.wordsRead = x.wordsRead ∧ y.segments = x.segments
        ∧ y.level = x.level ∧ (x.current = true → y.current = true) ∧ (x.next = true → y.next = true)))
  ∧ (∀ (s : State) (p : Pin) (set : List PatternIndex) (i : PatternIndex), (set ++ [i]).Nodup →
    setPins p [] s = s
    ∧ ((∃ x ∈ s.cache.lines, x.state ≠ .empty ∧ x.index = i) →
      setPins p [i] s = s.withCache { s.cache with lines := s.cache.lines.map (fun x =>
        if x.state ≠ .empty ∧ x.index = i then
          match p with
          | .current => { x with current := true, lastUse := s.scan.frameCounter }
          | .next => { x with next := true, lastUse := s.scan.frameCounter }
        else x) }
      ∧ setPins p (set ++ [i]) s = setPins p set (setPins p [i] s))
    ∧ ((∀ x ∈ s.cache.lines, x.state ≠ .empty → x.index ≠ i) →
      (∀ n, ChosenLine s.cache.lines s.scan.frameCounter n →
        setPins p [i] s = s.withCache
          (match p with
          | .current =>
            ⟨s.cache.lines.set n ⟨.filling, i, 0, 0, 0, true, false, s.scan.frameCounter⟩,
              s.cache.fills.filter (fun e => e.cls = .demand) ++ [⟨n, .demand⟩]
                ++ s.cache.fills.filter (fun e => e.cls = .prefetch)⟩
          | .next =>
            ⟨s.cache.lines.set n ⟨.filling, i, 0, 0, 0, false, true, s.scan.frameCounter⟩,
              s.cache.fills ++ [⟨n, .prefetch⟩]⟩))
      ∧ setPins p (set ++ [i]) s = setPins p [i] (setPins p set s)))
  ∧ (∀ (table : List SlotRecord) (r : SlotRecord) (base : PatternIndex),
    indexSet [] base = []
    ∧ indexSet (table ++ [r]) base =
      if base + r.offset ∈ indexSet table base then indexSet table base
      else indexSet table base ++ [base + r.offset])

/-- Removing a pin (R26, R28, R31): a line keeps its fields and loses the pin, but a FILLING line left with no
pin is withdrawn: EMPTY, its entry gone from the list, a read granted to it discarded. The withdrawn line's pattern
index, held as 0, is the model's choice (notes/assumptions/21.md). -/
def Obligations.PinRemovalWithdraws : Prop :=
  ∀ (s : State) (p : Pin) (n : Nat) (x : Line), CacheLaw s → s.cache.lines[n]? = some x →
    (x.state ≠ .filling ∨ (p = .current ∧ x.next = true) ∨ (p = .next ∧ x.current = true) →
      (removePins p s).cache.lines[n]? = some
          (match p with
          | .current => { x with current := false }
          | .next => { x with next := false })
      ∧ ∀ e, e.line = n → (e ∈ (removePins p s).cache.fills ↔ e ∈ s.cache.fills))
    ∧ (x.state = .filling → (p = .current ∧ x.next = false) ∨ (p = .next ∧ x.current = false) →
      (removePins p s).cache.lines[n]? = some ⟨.empty, 0, 0, 0, 0, false, false, x.lastUse⟩
      ∧ (∀ e ∈ (removePins p s).cache.fills, e.line ≠ n)
      ∧ (∀ idx k wd, s.arb.port = .fill n idx k wd → (removePins p s).arb.port = .fill n idx k true))

/-! ### The scan engine and the frame boundary -/

/-- SLOT_START: a dark slot drives nothing; that its captured pattern is held as unlit, with lit ticks 0, is the
model's choice (notes/assumptions/18.md). A grid slot drives its grid; with a VALID line holding its index it
captures the pattern and lights its segments for the lit ticks of R10; with none it is unlit and raises UNDERRUN.
The row comes whatever ticks of the gap remain (notes/assumptions/7.md), or in the phase between a boundary and slot
0 (notes/assumptions/8.md), both the model's choices. -/
def Obligations.SlotStartCapturesPattern : Prop :=
  ∀ (s : State) (i : Nat) (r : SlotRecord), CacheLaw s → s.scan.state = .running →
    ((s.scan.phase = .gap ∧ i = s.scan.slotIndex + 1) ∨ (s.scan.phase = .boundaryTaken ∧ i = 0)) →
    s.scan.table[i]? = some r →
    (r.grid = none →
      exec .slotStart s = .next (s.withScan { s.scan with
        slotIndex := i, phase := .onTime, ticksRemaining := r.onTime, captured := none, litTicks := 0,
        gridLines := 0, segLines := 0 }))
    ∧ (∀ (g : BitVec 4) (x : Line) (lvl lit : Nat), r.grid = some g → x ∈ s.cache.lines →
      x.state = .valid → x.index = s.scan.frameBase + r.offset → lvl = min 15 x.level.toNat →
      lit = r.onTime * min s.scan.globalLevel lvl / 15 →
      exec .slotStart s = .next (s.withScan { s.scan with
        slotIndex := i, phase := .onTime, ticksRemaining := r.onTime,
        captured := some ⟨x.segments, lvl⟩, litTicks := lit,
        gridLines := 1 <<< g.toNat, segLines := if lit = 0 then 0 else x.segments }))
    ∧ (∀ g : BitVec 4, r.grid = some g →
      (∀ x ∈ s.cache.lines, x.state = .valid → x.index ≠ s.scan.frameBase + r.offset) →
      exec .slotStart s = .next (raise .underrun (s.withScan { s.scan with
        slotIndex := i, phase := .onTime, ticksRemaining := r.onTime, captured := none, litTicks := 0,
        gridLines := 1 <<< g.toNat, segLines := 0 })))

/-- LIT_TICKS_END turns the segment lines off and leaves the grid driven. ON_TIME_END turns every line off, begins
the gap and, for a sense slot, hands the key scanner the sample, whose eight keys are observed in row order unless
KEY_RESET runs. That the sampled levels are held is the model's choice (notes/assumptions/14.md). Also the model's
choices: each row stands for the arrival of its moment whatever ticks remain, LIT_TICKS_END leaving the on-time's
ticks after the lit ones, none where the lit ticks fill it, with the grid still driven (notes/assumptions/7.md). -/
def Obligations.OnTimeEndsInGap : Prop :=
  ∀ (s t : State) (r : SlotRecord) (sense : BitVec 8), s.scan.state = .running → s.scan.phase = .onTime →
    s.scan.table[s.scan.slotIndex]? = some r →
    t = s.withScan { s.scan with
      phase := .gap, ticksRemaining := s.scan.gapTicks, gridLines := 0, segLines := 0,
      senseLines := sense } →
    (s.scan.ticksRemaining ≤ r.onTime → r.onTime - s.scan.ticksRemaining < s.scan.litTicks →
      exec .litTicksEnd s = .next (s.withScan { s.scan with
        segLines := 0, ticksRemaining := r.onTime - s.scan.litTicks }))
    ∧ ((r.grid = none ∨ r.sense = false ∨ s.keys.reset ≠ .idle) →
      exec (.onTimeEnd sense) s = .next t)
    ∧ (∀ g : BitVec 4, r.grid = some g → r.sense = true → s.keys.reset = .idle →
      exec (.onTimeEnd sense) s = .next
        ((List.range 8).foldl
          (fun u row => observeKey (g.toNat * 8 + row)
            (decide (sense.getLsbD row = s.keys.closedHigh)) u) t))

/-- FRAME_BOUNDARY and SWITCH_TIMEOUT: the frame counter rises, the pending level takes force, the CURRENT lines
take the advanced counter, and the frame switch counts or switches: table, base and pins move, the record becomes
NONE and the running command completes with DONE or LATE and the frames waited. At a switch a read granted to a
withdrawn fill is discarded (R38), and a write under way of a cell whose waiting value the switch replaces is of a
replaced value (R138). The model's choices: one order of the actions (notes/assumptions/16.md) and the whole
boundary in one happening (6.md); the phase between the boundary and slot 0, with slot index and ticks 0 (8.md); a
withdrawn line's pattern index 0 (21.md); the mark of a replaced value, an equal value too (13.md). The row comes
whatever ticks of the gap remain (7.md). -/
def Obligations.FrameBoundaryAdvancesAndSwitches : Prop :=
  ∀ s : State, BoundaryDue s →
    ∃ t, exec .frameBoundary s = .next t
      ∧ (s.switch.state = .preparing → s.switch.framesWaited + 1 = s.switch.timeout →
          exec .switchTimeout s = .next t)
      ∧ t.mem = s.mem ∧ t.pass = s.pass ∧ t.latch = s.latch ∧ t.events = s.events
      ∧ t.freeCount = s.freeCount ∧ t.pending = s.pending ∧ t.ws.recordProgress = s.ws.recordProgress
      ∧ t.arb.starveCounter = s.arb.starveCounter ∧ t.arb.starveLimit = s.arb.starveLimit
      ∧ (¬ SwitchDue s →
        t.ws.updates = s.ws.updates ∧ t.arb = s.arb ∧
        t.scan = { s.scan with
          frameCounter := s.scan.frameCounter + 1, globalLevel := s.scan.pendingLevel, slotIndex := 0,
          phase := .boundaryTaken, ticksRemaining := 0 }
        ∧ t.switch = { s.switch with
          framesWaited :=
            if s.switch.state = .preparing then s.switch.framesWaited + 1 else s.switch.framesWaited }
        ∧ t.cmd = s.cmd ∧ t.cache = { s.cache with
          lines := s.cache.lines.map (fun x =>
            if x.current = true then { x with lastUse := s.scan.frameCounter + 1 } else x) })
      ∧ (SwitchDue s →
        t.scan = { s.scan with
          frameCounter := s.scan.frameCounter + 1, globalLevel := s.scan.pendingLevel, slotIndex := 0,
          phase := .boundaryTaken, ticksRemaining := 0, table := s.switch.nextTable,
          frameBase := s.switch.nextBase }
        ∧ t.switch = ⟨.none, [], 0, 0, s.switch.timeout⟩
        ∧ t.cmd = { s.cmd with
          unit := .completing, announce := true, statusSeq := s.cmd.statusSeq + 1,
          record := ⟨s.cmd.taken.getD 0, if s.switch.state = .ready then 1 else 5,
            s.cmd.statusSeq + 1, BitVec.ofNat 16 (s.switch.framesWaited + 1)⟩ }
        ∧ (∀ u, u = placeUpdate .shownBase (.word (s.switch.nextBase.setWidth 16)) s →
          t.ws.updates = (placeUpdate .command (.word 0) (placeUpdate .statusRecord (.status t.cmd.record 0)
            (if s.switch.nextTable.length = s.scan.table.length then u
            else placeUpdate .scanState (.word (joinBytes (BitVec.ofNat 8 s.switch.nextTable.length) 2)) u))).ws.updates)
        ∧ t.arb.port =
          (match s.arb.port with
          | .fill n i k w =>
            .fill n i k (w || !(s.cache.lines[n]?.any (fun x => decide (x.state = .filling ∧ x.next = true))))
          | .write (.cell c) d r =>
            .write (.cell c) d (r || decide (c ∈ s.ws.updates.map Entry.cell ∧
              (c ∈ [.shownBase, .statusRecord, .command]
                ∨ (c = .scanState ∧ s.switch.nextTable.length ≠ s.scan.table.length))))
          | p => p)
        ∧ t.cache.lines = s.cache.lines.map (fun x =>
          if x.next = true then
            { x with current := true, next := false, lastUse := s.scan.frameCounter + 1 }
          else if x.state = .filling then
            ⟨.empty, 0, 0, 0, 0, false, false,
              if x.current = true then s.scan.frameCounter + 1 else x.lastUse⟩
          else if x.current = true then
            { x with current := false, lastUse := s.scan.frameCounter + 1 }
          else x)
        ∧ (CacheLaw s →
          t.cache.fills = (s.cache.fills.filter (fun e =>
            s.cache.lines[e.line]?.any (fun x => x.next))).map (fun e => ⟨e.line, .demand⟩)))

/-- The key scanner at a frame boundary and REPEAT: nothing while KEY_RESET runs; otherwise a jam with no refusal in
the frame is left under a reservation for JAM_CLEAR, the repeat tracker counts down or stages a REPEAT that is due
(dropped when there is no room), and the refusal mark goes. Where both act, the jam exit is asked first, and with
one place left the REPEAT is dropped (R70). The model's choices: the row REPEAT is the whole frame boundary at which
the repeat is due, counter, level and switch with it (DEDUCED, notes/assumptions/6.md); one order of the boundary's
actions (notes/assumptions/16.md); the row comes whatever ticks of the gap remain (notes/assumptions/7.md). -/
def Obligations.KeyBoundaryRepeatsAndLeavesJam : Prop :=
  ∀ s : State, BoundaryDue s →
    ∃ t, exec .frameBoundary s = .next t
      ∧ (s.keys.reset ≠ .idle →
        t.keys = s.keys ∧ t.ws.staging = s.ws.staging ∧ t.queue = s.queue)
      ∧ (s.keys.reset = .idle → ¬ (s.keys.jammed = true ∧ s.keys.refusalMark = false) →
        s.keys.repeatKey = none →
        t.keys = { s.keys with refusalMark := false } ∧ t.ws.staging = s.ws.staging ∧ t.queue = s.queue)
      ∧ (s.keys.reset = .idle → s.keys.jammed = true → s.keys.refusalMark = false →
        s.keys.repeatKey = none → canReserve s = true →
        t.keys = { s.keys with jammed := false }
        ∧ t.ws.staging = s.ws.staging ++ [⟨⟨.jamClear, 255, 0, downCount s⟩, s.queue.nextSeq,
            s.scan.frameCounter + 1, (s.queue.prod + s.ws.staging.length) % s.queue.len⟩]
        ∧ t.queue = { s.queue with nextSeq := s.queue.nextSeq + 1 })
      ∧ (s.keys.reset = .idle → s.keys.jammed = true → s.keys.refusalMark = false →
        s.keys.repeatKey = none → canReserve s = false →
        t.keys = s.keys ∧ t.ws.staging = s.ws.staging ∧ t.queue = s.queue)
      ∧ (∀ k x, s.keys.reset = .idle → ¬ (s.keys.jammed = true ∧ s.keys.refusalMark = false) →
        s.keys.repeatKey = some k → s.keys.table[k]? = some x → x.down = true →
        (1 < s.keys.framesToRepeat →
          t.keys = { s.keys with refusalMark := false, framesToRepeat := s.keys.framesToRepeat - 1 }
          ∧ t.ws.staging = s.ws.staging ∧ t.queue = s.queue)
        ∧ (s.keys.framesToRepeat = 1 → canReserve s = true →
          exec .repeatDue s = .next t
          ∧ t.keys = { s.keys with
              refusalMark := false, repeatCount := min (s.keys.repeatCount + 1) 255,
              framesToRepeat := s.keys.repeatInterval }
          ∧ t.ws.staging = s.ws.staging ++ [⟨⟨.repeatKey, k, min (s.keys.repeatCount + 1) 255, downCount s⟩,
              s.queue.nextSeq, s.scan.frameCounter + 1,
              (s.queue.prod + s.ws.staging.length) % s.queue.len⟩]
          ∧ t.queue = { s.queue with nextSeq := s.queue.nextSeq + 1 })
        ∧ (s.keys.framesToRepeat = 1 → canReserve s = false →
          exec .repeatDue s = .next t
          ∧ t.keys = { s.keys with refusalMark := false, framesToRepeat := s.keys.repeatInterval }
          ∧ t.ws.staging = s.ws.staging ∧ t.queue = s.queue))
      ∧ (∀ k x clear, s.keys.reset = .idle → s.keys.jammed = true → s.keys.refusalMark = false →
        s.keys.repeatKey = some k → s.keys.table[k]? = some x → x.down = true →
        clear = ⟨⟨.jamClear, 255, 0, downCount s⟩, s.queue.nextSeq, s.scan.frameCounter + 1,
          (s.queue.prod + s.ws.staging.length) % s.queue.len⟩ →
        (1 < s.keys.framesToRepeat → canReserve s = true →
          t.keys = { s.keys with jammed := false, framesToRepeat := s.keys.framesToRepeat - 1 }
          ∧ t.ws.staging = s.ws.staging ++ [clear]
          ∧ t.queue = { s.queue with nextSeq := s.queue.nextSeq + 1 })
        ∧ (1 < s.keys.framesToRepeat → canReserve s = false →
          t.keys = { s.keys with framesToRepeat := s.keys.framesToRepeat - 1 }
          ∧ t.ws.staging = s.ws.staging ∧ t.queue = s.queue)
        ∧ (s.keys.framesToRepeat = 1 →
          queueCount s.queue + s.ws.staging.length + 3 ≤ s.queue.len → s.ws.staging.length ≤ 2 →
          exec .repeatDue s = .next t
          ∧ t.keys = { s.keys with
              jammed := false, repeatCount := min (s.keys.repeatCount + 1) 255,
              framesToRepeat := s.keys.repeatInterval }
          ∧ t.ws.staging = s.ws.staging ++ [clear,
              ⟨⟨.repeatKey, k, min (s.keys.repeatCount + 1) 255, downCount s⟩, s.queue.nextSeq + 1,
                s.scan.frameCounter + 1, (s.queue.prod + (s.ws.staging.length + 1)) % s.queue.len⟩]
          ∧ t.queue = { s.queue with nextSeq := s.queue.nextSeq + 2 })
        ∧ (s.keys.framesToRepeat = 1 → canReserve s = true →
          (s.queue.len < queueCount s.queue + s.ws.staging.length + 3 ∨ s.ws.staging.length = 3) →
          exec .repeatDue s = .next t
          ∧ t.keys = { s.keys with jammed := false, framesToRepeat := s.keys.repeatInterval }
          ∧ t.ws.staging = s.ws.staging ++ [clear]
          ∧ t.queue = { s.queue with nextSeq := s.queue.nextSeq + 1 })
        ∧ (s.keys.framesToRepeat = 1 → canReserve s = false →
          exec .repeatDue s = .next t
          ∧ t.keys = { s.keys with framesToRepeat := s.keys.repeatInterval }
          ∧ t.ws.staging = s.ws.staging ∧ t.queue = s.queue))

/-! ### Keys -/

/-- An agreeing observation gives up a counting or held change (R61). -/
def Obligations.AgreeingKeyGivesUpChange : Prop :=
  ∀ (s : State) (k : Nat) (x : Key), s.keys.table[k]? = some x →
    observeKey k x.down s =
      s.withKeys { s.keys with table := s.keys.table.set k { x with count := 0, held := false } }

/-- A disagreeing observation counts until the debounce scans are reached, and then, as at every later one of a
held change, acceptance is tried: a release under a reservation, a press below the rollover limit under a
reservation; with no room the change is held (R62, R64, R66, R72). -/
def Obligations.DisagreeingKeyCountsThenChanges : Prop :=
  ∀ (s t : State) (k : Nat) (x : Key) (c : Nat), s.keys.table[k]? = some x → 1 ≤ s.keys.debounce →
    (x.held = false → x.count + 1 < s.keys.debounce →
      observeKey k (!x.down) s =
        s.withKeys { s.keys with table := s.keys.table.set k { x with count := x.count + 1 } })
    ∧ ((x.held = true ∧ c = x.count) ∨ (x.held = false ∧ s.keys.debounce ≤ x.count + 1 ∧
          c = s.keys.debounce) →
      (x.down = true → canReserve s = true → t = stage ⟨.release, k, 0, downCount s - 1⟩ s →
        observeKey k false s = t.withKeys { s.keys with
          table := s.keys.table.set k ⟨false, 0, false⟩,
          repeatKey := if s.keys.repeatKey = some k then none else s.keys.repeatKey,
          framesToRepeat := if s.keys.repeatKey = some k then 0 else s.keys.framesToRepeat,
          repeatCount := if s.keys.repeatKey = some k then 0 else s.keys.repeatCount })
      ∧ (x.down = false → downCount s < s.keys.rollover → canReserve s = true →
        t = stage ⟨.press, k, 0, downCount s + 1⟩ s →
        observeKey k true s = t.withKeys { s.keys with
          table := s.keys.table.set k ⟨true, 0, false⟩,
          repeatKey := if 0 < s.keys.repeatDelay then some k else s.keys.repeatKey,
          framesToRepeat := if 0 < s.keys.repeatDelay then s.keys.repeatDelay else s.keys.framesToRepeat,
          repeatCount := if 0 < s.keys.repeatDelay then 0 else s.keys.repeatCount })
      ∧ ((x.down = true ∨ downCount s < s.keys.rollover) → canReserve s = false →
        observeKey k (!x.down) s =
          s.withKeys { s.keys with table := s.keys.table.set k ⟨x.down, c, true⟩ }))

/-- A ready press, held or just come to the debounce scans, at or above the rollover limit is refused: held, the
refusal mark set, and in CLEAR a JAM event asked for (R62, R65, R68). -/
def Obligations.RolloverRefusesPress : Prop :=
  ∀ (s t : State) (k : Nat) (x : Key) (c : Nat), s.keys.table[k]? = some x → x.down = false →
    ((x.held = true ∧ c = x.count) ∨ (x.held = false ∧ s.keys.debounce ≤ x.count + 1 ∧
      c = s.keys.debounce)) →
    s.keys.rollover ≤ downCount s →
    t = s.withKeys { s.keys with table := s.keys.table.set k ⟨false, c, true⟩, refusalMark := true } →
    (s.keys.jammed = true → observeKey k true s = t)
    ∧ (s.keys.jammed = false → canReserve s = false → observeKey k true s = t)
    ∧ (s.keys.jammed = false → canReserve s = true →
      observeKey k true s = (stage ⟨.jam, 255, 0, downCount s⟩ t).withKeys { t.keys with jammed := true })

/-- A reservation (R82, R83): granted while count and staged stay within L − 2 and staged within 3; the event is
staged last with the next sequence number, the frame counter and the ring position; a refusal changes
nothing. -/
def Obligations.ReservationStagesEvent : Prop :=
  ∀ (s t : State) (e : KeyEvent), 2 ≤ s.queue.len →
    (reserve e s = some t ↔
      (s.queue.prod + s.queue.len - s.queue.cons) % s.queue.len + s.ws.staging.length ≤ s.queue.len - 2
      ∧ s.ws.staging.length ≤ 3
      ∧ t = (s.withWs { s.ws with staging := s.ws.staging ++
            [⟨e, s.queue.nextSeq, s.scan.frameCounter,
              (s.queue.prod + s.ws.staging.length) % s.queue.len⟩] }).withQueue
          { s.queue with nextSeq := s.queue.nextSeq + 1 })

/-! ### The write stage -/

/-- WRITE_STAGE_WRITE_DONE: memory receives both lanes; a one-word cell whose value was replaced since the grant
keeps its entry (the mark of it is the model's, notes/assumptions/13.md), otherwise the entry leaves, the consumer
cell's too while no FLUSH_QUEUE runs; the status record counts its words and leaves after the fourth; a record counts
its words. -/
def Obligations.WriteDoneMovesLists : Prop :=
  ∀ (s : State) (d : Word),
    (∀ c, s.arb.port = .write (.cell c) d true →
      exec .writeStageWriteDone s = .next (cellStored s (cellOffset c) d))
    ∧ (∀ c r, s.arb.port = .write (.cell c) d r → r = false →
      (c = .pending ∨ c = .shownBase ∨ c = .scanState
        ∨ (c = .consumer ∧ ¬ (s.cmd.unit = .busy ∧ s.cmd.taken = some 5))) →
      exec .writeStageWriteDone s = .next ((cellStored s (cellOffset c) d).withWs
        { s.ws with updates := s.ws.updates.filter (fun e => e.cell ≠ c) }))
    ∧ (∀ r q us, s.arb.port = .write (.status 3) d r → s.ws.updates = ⟨.statusRecord, .status q 3⟩ :: us →
      (∀ e ∈ us, e.cell ≠ .statusRecord) →
      exec .writeStageWriteDone s =
        .next ((cellStored s 0x00E d).withWs { s.ws with updates := us }))
    ∧ (∀ k r q us, k < 3 → s.arb.port = .write (.status k) d r →
      s.ws.updates = ⟨.statusRecord, .status q k⟩ :: us → (∀ e ∈ us, e.cell ≠ .statusRecord) →
      exec .writeStageWriteDone s = .next ((cellStored s (0x008 + 2 * k) d).withWs
        { s.ws with updates := ⟨.statusRecord, .status q (k + 1)⟩ :: us }))
    ∧ (∀ p k r, k < 3 → s.arb.port = .write (.record p k) d r →
      exec .writeStageWriteDone s = .next ((cellStored s (0x200 + 8 * p + 2 * k) d).withWs
        { s.ws with recordProgress := k + 1 }))

/-- RECORD_COMPLETE: the fourth word ends; P advances modulo L, the event leaves the staging list, the producer
cell's update is placed and the announce mark set; a waiting KEY_RESET drain asks again at its end (R75).
QUEUE_DATA: the producer cell's write ends and the kind is raised once for the records it announces. That
WRITE_STAGE_WRITE_DONE does these ends of a write too is the model's reading (DEDUCED, notes/assumptions/6.md). -/
def Obligations.RecordCompletionAdvancesProducer : Prop :=
  ∀ (s : State) (d : Word),
    (∀ p r e es, s.arb.port = .write (.record p 3) d r → s.ws.staging = e :: es →
      s.queue.acceptance = none →
      ∀ t, t = placeUpdate .producer (.word (BitVec.ofNat 16 ((s.queue.prod + 1) % s.queue.len)))
          (((cellStored s (0x206 + 8 * p) d).withWs
            { s.ws with staging := es, recordProgress := 0 }).withQueue
            { s.queue with prod := (s.queue.prod + 1) % s.queue.len, announce := true }) →
      (s.keys.reset = .idle → exec .recordComplete s = .next t)
      ∧ (s.keys.reset ≠ .idle → exec .recordComplete s = .next (askDrain t))
      ∧ exec .writeStageWriteDone s = exec .recordComplete s)
    ∧ (∀ t, s.arb.port = .write (.cell .producer) d false →
      t = (cellStored s 0x018 d).withWs
        { s.ws with updates := s.ws.updates.filter (fun e => e.cell ≠ .producer) } →
      (s.queue.announce = true →
        exec .queueData s = .next (raise .queueData (t.withQueue { s.queue with announce := false }))
        ∧ exec .writeStageWriteDone s = exec .queueData s)
      ∧ (s.queue.announce = false → exec .writeStageWriteDone s = .next t))

/-! ### Promotion -/

/-- Promotion (R33). At a switch the entries of the new frame's lines stay, those that were DEMAND first and in
their order, then those that waited as PREFETCH, DEMAND now and in the order they had, and the lines keep their
words read; every FILLING line of the new frame has its entry, which at the head of the list is granted, as DEMAND,
the read of the word after those it had read as PREFETCH. An entry that is DEMAND keeps that class under every
command until it leaves the list. -/
def Obligations.PromotedFillsStayDemand : Prop :=
  ∀ s : State, CacheLaw s →
    (BoundaryDue s → SwitchDue s →
      ∃ t, exec .frameBoundary s = .next t
        ∧ t.cache.fills =
          s.cache.fills.filter (fun e => e.cls = .demand ∧ s.cache.lines[e.line]?.any (fun x => x.next) = true)
          ++ (s.cache.fills.filter (fun e =>
              e.cls = .prefetch ∧ s.cache.lines[e.line]?.any (fun x => x.next) = true)).map
                (fun e => ⟨e.line, .demand⟩)
        ∧ (∀ (n : Nat) (x : Line), s.cache.lines[n]? = some x → x.state = .filling → x.next = true →
          (∃ e ∈ t.cache.fills, e.line = n)
          ∧ ∃ y, t.cache.lines[n]? = some y ∧ y.state = .filling ∧ y.current = true
            ∧ y.index = x.index ∧ y.wordsRead = x.wordsRead
            ∧ ∀ (u : State) (es : List FillEntry), u.cache.lines = t.cache.lines →
              u.cache.fills = ⟨n, .demand⟩ :: es → u.pass.resetHeld = false → u.pass.waiting = none →
              u.arb.port = .free →
              exec .arbiterDecision u = .next (u.withArb { u.arb with
                starveCounter := 0, port := .fill n x.index x.wordsRead false })))
    ∧ (∀ (c : Instr) (t : State), exec c s = .next t →
      ∀ e ∈ s.cache.fills, e.cls = .demand → ∀ e' ∈ t.cache.fills, e'.line = e.line → e'.cls = .demand)
end

