-- ==== Sys2Proof/Laws/State.lean ====
section
/-! SUPPORT. One lemma per field per replacement of a block: the block replaced reads as given, every other
field as before. No later proof unfolds a replacement. -/

namespace Sys2Proof.Machine

@[simp] theorem State.withPass_pass (s : State) (x : PassThrough) : (s.withPass x).pass = x := rfl
@[simp] theorem State.withPass_arb (s : State) (x : PassThrough) : (s.withPass x).arb = s.arb := rfl
@[simp] theorem State.withPass_ws (s : State) (x : PassThrough) : (s.withPass x).ws = s.ws := rfl
@[simp] theorem State.withPass_cmd (s : State) (x : PassThrough) : (s.withPass x).cmd = s.cmd := rfl
@[simp] theorem State.withPass_latch (s : State) (x : PassThrough) : (s.withPass x).latch = s.latch := rfl
@[simp] theorem State.withPass_scan (s : State) (x : PassThrough) : (s.withPass x).scan = s.scan := rfl
@[simp] theorem State.withPass_cache (s : State) (x : PassThrough) : (s.withPass x).cache = s.cache := rfl
@[simp] theorem State.withPass_switch (s : State) (x : PassThrough) : (s.withPass x).switch = s.switch := rfl
@[simp] theorem State.withPass_keys (s : State) (x : PassThrough) : (s.withPass x).keys = s.keys := rfl
@[simp] theorem State.withPass_queue (s : State) (x : PassThrough) : (s.withPass x).queue = s.queue := rfl
@[simp] theorem State.withPass_events (s : State) (x : PassThrough) : (s.withPass x).events = s.events := rfl
@[simp] theorem State.withPass_mem (s : State) (x : PassThrough) : (s.withPass x).mem = s.mem := rfl
@[simp] theorem State.withPass_freeCount (s : State) (x : PassThrough) : (s.withPass x).freeCount = s.freeCount := rfl
@[simp] theorem State.withPass_pending (s : State) (x : PassThrough) : (s.withPass x).pending = s.pending := rfl

@[simp] theorem State.withArb_pass (s : State) (x : Arbiter) : (s.withArb x).pass = s.pass := rfl
@[simp] theorem State.withArb_arb (s : State) (x : Arbiter) : (s.withArb x).arb = x := rfl
@[simp] theorem State.withArb_ws (s : State) (x : Arbiter) : (s.withArb x).ws = s.ws := rfl
@[simp] theorem State.withArb_cmd (s : State) (x : Arbiter) : (s.withArb x).cmd = s.cmd := rfl
@[simp] theorem State.withArb_latch (s : State) (x : Arbiter) : (s.withArb x).latch = s.latch := rfl
@[simp] theorem State.withArb_scan (s : State) (x : Arbiter) : (s.withArb x).scan = s.scan := rfl
@[simp] theorem State.withArb_cache (s : State) (x : Arbiter) : (s.withArb x).cache = s.cache := rfl
@[simp] theorem State.withArb_switch (s : State) (x : Arbiter) : (s.withArb x).switch = s.switch := rfl
@[simp] theorem State.withArb_keys (s : State) (x : Arbiter) : (s.withArb x).keys = s.keys := rfl
@[simp] theorem State.withArb_queue (s : State) (x : Arbiter) : (s.withArb x).queue = s.queue := rfl
@[simp] theorem State.withArb_events (s : State) (x : Arbiter) : (s.withArb x).events = s.events := rfl
@[simp] theorem State.withArb_mem (s : State) (x : Arbiter) : (s.withArb x).mem = s.mem := rfl
@[simp] theorem State.withArb_freeCount (s : State) (x : Arbiter) : (s.withArb x).freeCount = s.freeCount := rfl
@[simp] theorem State.withArb_pending (s : State) (x : Arbiter) : (s.withArb x).pending = s.pending := rfl

@[simp] theorem State.withWs_pass (s : State) (x : WriteStage) : (s.withWs x).pass = s.pass := rfl
@[simp] theorem State.withWs_arb (s : State) (x : WriteStage) : (s.withWs x).arb = s.arb := rfl
@[simp] theorem State.withWs_ws (s : State) (x : WriteStage) : (s.withWs x).ws = x := rfl
@[simp] theorem State.withWs_cmd (s : State) (x : WriteStage) : (s.withWs x).cmd = s.cmd := rfl
@[simp] theorem State.withWs_latch (s : State) (x : WriteStage) : (s.withWs x).latch = s.latch := rfl
@[simp] theorem State.withWs_scan (s : State) (x : WriteStage) : (s.withWs x).scan = s.scan := rfl
@[simp] theorem State.withWs_cache (s : State) (x : WriteStage) : (s.withWs x).cache = s.cache := rfl
@[simp] theorem State.withWs_switch (s : State) (x : WriteStage) : (s.withWs x).switch = s.switch := rfl
@[simp] theorem State.withWs_keys (s : State) (x : WriteStage) : (s.withWs x).keys = s.keys := rfl
@[simp] theorem State.withWs_queue (s : State) (x : WriteStage) : (s.withWs x).queue = s.queue := rfl
@[simp] theorem State.withWs_events (s : State) (x : WriteStage) : (s.withWs x).events = s.events := rfl
@[simp] theorem State.withWs_mem (s : State) (x : WriteStage) : (s.withWs x).mem = s.mem := rfl
@[simp] theorem State.withWs_freeCount (s : State) (x : WriteStage) : (s.withWs x).freeCount = s.freeCount := rfl
@[simp] theorem State.withWs_pending (s : State) (x : WriteStage) : (s.withWs x).pending = s.pending := rfl

@[simp] theorem State.withCmd_pass (s : State) (x : CommandUnit) : (s.withCmd x).pass = s.pass := rfl
@[simp] theorem State.withCmd_arb (s : State) (x : CommandUnit) : (s.withCmd x).arb = s.arb := rfl
@[simp] theorem State.withCmd_ws (s : State) (x : CommandUnit) : (s.withCmd x).ws = s.ws := rfl
@[simp] theorem State.withCmd_cmd (s : State) (x : CommandUnit) : (s.withCmd x).cmd = x := rfl
@[simp] theorem State.withCmd_latch (s : State) (x : CommandUnit) : (s.withCmd x).latch = s.latch := rfl
@[simp] theorem State.withCmd_scan (s : State) (x : CommandUnit) : (s.withCmd x).scan = s.scan := rfl
@[simp] theorem State.withCmd_cache (s : State) (x : CommandUnit) : (s.withCmd x).cache = s.cache := rfl
@[simp] theorem State.withCmd_switch (s : State) (x : CommandUnit) : (s.withCmd x).switch = s.switch := rfl
@[simp] theorem State.withCmd_keys (s : State) (x : CommandUnit) : (s.withCmd x).keys = s.keys := rfl
@[simp] theorem State.withCmd_queue (s : State) (x : CommandUnit) : (s.withCmd x).queue = s.queue := rfl
@[simp] theorem State.withCmd_events (s : State) (x : CommandUnit) : (s.withCmd x).events = s.events := rfl
@[simp] theorem State.withCmd_mem (s : State) (x : CommandUnit) : (s.withCmd x).mem = s.mem := rfl
@[simp] theorem State.withCmd_freeCount (s : State) (x : CommandUnit) : (s.withCmd x).freeCount = s.freeCount := rfl
@[simp] theorem State.withCmd_pending (s : State) (x : CommandUnit) : (s.withCmd x).pending = s.pending := rfl

@[simp] theorem State.withLatch_pass (s : State) (x : TableLatch) : (s.withLatch x).pass = s.pass := rfl
@[simp] theorem State.withLatch_arb (s : State) (x : TableLatch) : (s.withLatch x).arb = s.arb := rfl
@[simp] theorem State.withLatch_ws (s : State) (x : TableLatch) : (s.withLatch x).ws = s.ws := rfl
@[simp] theorem State.withLatch_cmd (s : State) (x : TableLatch) : (s.withLatch x).cmd = s.cmd := rfl
@[simp] theorem State.withLatch_latch (s : State) (x : TableLatch) : (s.withLatch x).latch = x := rfl
@[simp] theorem State.withLatch_scan (s : State) (x : TableLatch) : (s.withLatch x).scan = s.scan := rfl
@[simp] theorem State.withLatch_cache (s : State) (x : TableLatch) : (s.withLatch x).cache = s.cache := rfl
@[simp] theorem State.withLatch_switch (s : State) (x : TableLatch) : (s.withLatch x).switch = s.switch := rfl
@[simp] theorem State.withLatch_keys (s : State) (x : TableLatch) : (s.withLatch x).keys = s.keys := rfl
@[simp] theorem State.withLatch_queue (s : State) (x : TableLatch) : (s.withLatch x).queue = s.queue := rfl
@[simp] theorem State.withLatch_events (s : State) (x : TableLatch) : (s.withLatch x).events = s.events := rfl
@[simp] theorem State.withLatch_mem (s : State) (x : TableLatch) : (s.withLatch x).mem = s.mem := rfl
@[simp] theorem State.withLatch_freeCount (s : State) (x : TableLatch) : (s.withLatch x).freeCount = s.freeCount := rfl
@[simp] theorem State.withLatch_pending (s : State) (x : TableLatch) : (s.withLatch x).pending = s.pending := rfl

@[simp] theorem State.withScan_pass (s : State) (x : ScanEngine) : (s.withScan x).pass = s.pass := rfl
@[simp] theorem State.withScan_arb (s : State) (x : ScanEngine) : (s.withScan x).arb = s.arb := rfl
@[simp] theorem State.withScan_ws (s : State) (x : ScanEngine) : (s.withScan x).ws = s.ws := rfl
@[simp] theorem State.withScan_cmd (s : State) (x : ScanEngine) : (s.withScan x).cmd = s.cmd := rfl
@[simp] theorem State.withScan_latch (s : State) (x : ScanEngine) : (s.withScan x).latch = s.latch := rfl
@[simp] theorem State.withScan_scan (s : State) (x : ScanEngine) : (s.withScan x).scan = x := rfl
@[simp] theorem State.withScan_cache (s : State) (x : ScanEngine) : (s.withScan x).cache = s.cache := rfl
@[simp] theorem State.withScan_switch (s : State) (x : ScanEngine) : (s.withScan x).switch = s.switch := rfl
@[simp] theorem State.withScan_keys (s : State) (x : ScanEngine) : (s.withScan x).keys = s.keys := rfl
@[simp] theorem State.withScan_queue (s : State) (x : ScanEngine) : (s.withScan x).queue = s.queue := rfl
@[simp] theorem State.withScan_events (s : State) (x : ScanEngine) : (s.withScan x).events = s.events := rfl
@[simp] theorem State.withScan_mem (s : State) (x : ScanEngine) : (s.withScan x).mem = s.mem := rfl
@[simp] theorem State.withScan_freeCount (s : State) (x : ScanEngine) : (s.withScan x).freeCount = s.freeCount := rfl
@[simp] theorem State.withScan_pending (s : State) (x : ScanEngine) : (s.withScan x).pending = s.pending := rfl

@[simp] theorem State.withCache_pass (s : State) (x : FrameCache) : (s.withCache x).pass = s.pass := rfl
@[simp] theorem State.withCache_arb (s : State) (x : FrameCache) : (s.withCache x).arb = s.arb := rfl
@[simp] theorem State.withCache_ws (s : State) (x : FrameCache) : (s.withCache x).ws = s.ws := rfl
@[simp] theorem State.withCache_cmd (s : State) (x : FrameCache) : (s.withCache x).cmd = s.cmd := rfl
@[simp] theorem State.withCache_latch (s : State) (x : FrameCache) : (s.withCache x).latch = s.latch := rfl
@[simp] theorem State.withCache_scan (s : State) (x : FrameCache) : (s.withCache x).scan = s.scan := rfl
@[simp] theorem State.withCache_cache (s : State) (x : FrameCache) : (s.withCache x).cache = x := rfl
@[simp] theorem State.withCache_switch (s : State) (x : FrameCache) : (s.withCache x).switch = s.switch := rfl
@[simp] theorem State.withCache_keys (s : State) (x : FrameCache) : (s.withCache x).keys = s.keys := rfl
@[simp] theorem State.withCache_queue (s : State) (x : FrameCache) : (s.withCache x).queue = s.queue := rfl
@[simp] theorem State.withCache_events (s : State) (x : FrameCache) : (s.withCache x).events = s.events := rfl
@[simp] theorem State.withCache_mem (s : State) (x : FrameCache) : (s.withCache x).mem = s.mem := rfl
@[simp] theorem State.withCache_freeCount (s : State) (x : FrameCache) : (s.withCache x).freeCount = s.freeCount := rfl
@[simp] theorem State.withCache_pending (s : State) (x : FrameCache) : (s.withCache x).pending = s.pending := rfl

@[simp] theorem State.withSwitch_pass (s : State) (x : FrameSwitch) : (s.withSwitch x).pass = s.pass := rfl
@[simp] theorem State.withSwitch_arb (s : State) (x : FrameSwitch) : (s.withSwitch x).arb = s.arb := rfl
@[simp] theorem State.withSwitch_ws (s : State) (x : FrameSwitch) : (s.withSwitch x).ws = s.ws := rfl
@[simp] theorem State.withSwitch_cmd (s : State) (x : FrameSwitch) : (s.withSwitch x).cmd = s.cmd := rfl
@[simp] theorem State.withSwitch_latch (s : State) (x : FrameSwitch) : (s.withSwitch x).latch = s.latch := rfl
@[simp] theorem State.withSwitch_scan (s : State) (x : FrameSwitch) : (s.withSwitch x).scan = s.scan := rfl
@[simp] theorem State.withSwitch_cache (s : State) (x : FrameSwitch) : (s.withSwitch x).cache = s.cache := rfl
@[simp] theorem State.withSwitch_switch (s : State) (x : FrameSwitch) : (s.withSwitch x).switch = x := rfl
@[simp] theorem State.withSwitch_keys (s : State) (x : FrameSwitch) : (s.withSwitch x).keys = s.keys := rfl
@[simp] theorem State.withSwitch_queue (s : State) (x : FrameSwitch) : (s.withSwitch x).queue = s.queue := rfl
@[simp] theorem State.withSwitch_events (s : State) (x : FrameSwitch) : (s.withSwitch x).events = s.events := rfl
@[simp] theorem State.withSwitch_mem (s : State) (x : FrameSwitch) : (s.withSwitch x).mem = s.mem := rfl
@[simp] theorem State.withSwitch_freeCount (s : State) (x : FrameSwitch) : (s.withSwitch x).freeCount = s.freeCount := rfl
@[simp] theorem State.withSwitch_pending (s : State) (x : FrameSwitch) : (s.withSwitch x).pending = s.pending := rfl

@[simp] theorem State.withKeys_pass (s : State) (x : KeyScanner) : (s.withKeys x).pass = s.pass := rfl
@[simp] theorem State.withKeys_arb (s : State) (x : KeyScanner) : (s.withKeys x).arb = s.arb := rfl
@[simp] theorem State.withKeys_ws (s : State) (x : KeyScanner) : (s.withKeys x).ws = s.ws := rfl
@[simp] theorem State.withKeys_cmd (s : State) (x : KeyScanner) : (s.withKeys x).cmd = s.cmd := rfl
@[simp] theorem State.withKeys_latch (s : State) (x : KeyScanner) : (s.withKeys x).latch = s.latch := rfl
@[simp] theorem State.withKeys_scan (s : State) (x : KeyScanner) : (s.withKeys x).scan = s.scan := rfl
@[simp] theorem State.withKeys_cache (s : State) (x : KeyScanner) : (s.withKeys x).cache = s.cache := rfl
@[simp] theorem State.withKeys_switch (s : State) (x : KeyScanner) : (s.withKeys x).switch = s.switch := rfl
@[simp] theorem State.withKeys_keys (s : State) (x : KeyScanner) : (s.withKeys x).keys = x := rfl
@[simp] theorem State.withKeys_queue (s : State) (x : KeyScanner) : (s.withKeys x).queue = s.queue := rfl
@[simp] theorem State.withKeys_events (s : State) (x : KeyScanner) : (s.withKeys x).events = s.events := rfl
@[simp] theorem State.withKeys_mem (s : State) (x : KeyScanner) : (s.withKeys x).mem = s.mem := rfl
@[simp] theorem State.withKeys_freeCount (s : State) (x : KeyScanner) : (s.withKeys x).freeCount = s.freeCount := rfl
@[simp] theorem State.withKeys_pending (s : State) (x : KeyScanner) : (s.withKeys x).pending = s.pending := rfl

@[simp] theorem State.withQueue_pass (s : State) (x : EventQueue) : (s.withQueue x).pass = s.pass := rfl
@[simp] theorem State.withQueue_arb (s : State) (x : EventQueue) : (s.withQueue x).arb = s.arb := rfl
@[simp] theorem State.withQueue_ws (s : State) (x : EventQueue) : (s.withQueue x).ws = s.ws := rfl
@[simp] theorem State.withQueue_cmd (s : State) (x : EventQueue) : (s.withQueue x).cmd = s.cmd := rfl
@[simp] theorem State.withQueue_latch (s : State) (x : EventQueue) : (s.withQueue x).latch = s.latch := rfl
@[simp] theorem State.withQueue_scan (s : State) (x : EventQueue) : (s.withQueue x).scan = s.scan := rfl
@[simp] theorem State.withQueue_cache (s : State) (x : EventQueue) : (s.withQueue x).cache = s.cache := rfl
@[simp] theorem State.withQueue_switch (s : State) (x : EventQueue) : (s.withQueue x).switch = s.switch := rfl
@[simp] theorem State.withQueue_keys (s : State) (x : EventQueue) : (s.withQueue x).keys = s.keys := rfl
@[simp] theorem State.withQueue_queue (s : State) (x : EventQueue) : (s.withQueue x).queue = x := rfl
@[simp] theorem State.withQueue_events (s : State) (x : EventQueue) : (s.withQueue x).events = s.events := rfl
@[simp] theorem State.withQueue_mem (s : State) (x : EventQueue) : (s.withQueue x).mem = s.mem := rfl
@[simp] theorem State.withQueue_freeCount (s : State) (x : EventQueue) : (s.withQueue x).freeCount = s.freeCount := rfl
@[simp] theorem State.withQueue_pending (s : State) (x : EventQueue) : (s.withQueue x).pending = s.pending := rfl

@[simp] theorem State.withEvents_pass (s : State) (x : EventUnit) : (s.withEvents x).pass = s.pass := rfl
@[simp] theorem State.withEvents_arb (s : State) (x : EventUnit) : (s.withEvents x).arb = s.arb := rfl
@[simp] theorem State.withEvents_ws (s : State) (x : EventUnit) : (s.withEvents x).ws = s.ws := rfl
@[simp] theorem State.withEvents_cmd (s : State) (x : EventUnit) : (s.withEvents x).cmd = s.cmd := rfl
@[simp] theorem State.withEvents_latch (s : State) (x : EventUnit) : (s.withEvents x).latch = s.latch := rfl
@[simp] theorem State.withEvents_scan (s : State) (x : EventUnit) : (s.withEvents x).scan = s.scan := rfl
@[simp] theorem State.withEvents_cache (s : State) (x : EventUnit) : (s.withEvents x).cache = s.cache := rfl
@[simp] theorem State.withEvents_switch (s : State) (x : EventUnit) : (s.withEvents x).switch = s.switch := rfl
@[simp] theorem State.withEvents_keys (s : State) (x : EventUnit) : (s.withEvents x).keys = s.keys := rfl
@[simp] theorem State.withEvents_queue (s : State) (x : EventUnit) : (s.withEvents x).queue = s.queue := rfl
@[simp] theorem State.withEvents_events (s : State) (x : EventUnit) : (s.withEvents x).events = x := rfl
@[simp] theorem State.withEvents_mem (s : State) (x : EventUnit) : (s.withEvents x).mem = s.mem := rfl
@[simp] theorem State.withEvents_freeCount (s : State) (x : EventUnit) : (s.withEvents x).freeCount = s.freeCount := rfl
@[simp] theorem State.withEvents_pending (s : State) (x : EventUnit) : (s.withEvents x).pending = s.pending := rfl

@[simp] theorem State.withMem_pass (s : State) (x : List Host.Cell) : (s.withMem x).pass = s.pass := rfl
@[simp] theorem State.withMem_arb (s : State) (x : List Host.Cell) : (s.withMem x).arb = s.arb := rfl
@[simp] theorem State.withMem_ws (s : State) (x : List Host.Cell) : (s.withMem x).ws = s.ws := rfl
@[simp] theorem State.withMem_cmd (s : State) (x : List Host.Cell) : (s.withMem x).cmd = s.cmd := rfl
@[simp] theorem State.withMem_latch (s : State) (x : List Host.Cell) : (s.withMem x).latch = s.latch := rfl
@[simp] theorem State.withMem_scan (s : State) (x : List Host.Cell) : (s.withMem x).scan = s.scan := rfl
@[simp] theorem State.withMem_cache (s : State) (x : List Host.Cell) : (s.withMem x).cache = s.cache := rfl
@[simp] theorem State.withMem_switch (s : State) (x : List Host.Cell) : (s.withMem x).switch = s.switch := rfl
@[simp] theorem State.withMem_keys (s : State) (x : List Host.Cell) : (s.withMem x).keys = s.keys := rfl
@[simp] theorem State.withMem_queue (s : State) (x : List Host.Cell) : (s.withMem x).queue = s.queue := rfl
@[simp] theorem State.withMem_events (s : State) (x : List Host.Cell) : (s.withMem x).events = s.events := rfl
@[simp] theorem State.withMem_mem (s : State) (x : List Host.Cell) : (s.withMem x).mem = x := rfl
@[simp] theorem State.withMem_freeCount (s : State) (x : List Host.Cell) : (s.withMem x).freeCount = s.freeCount := rfl
@[simp] theorem State.withMem_pending (s : State) (x : List Host.Cell) : (s.withMem x).pending = s.pending := rfl

@[simp] theorem State.withFreeCount_pass (s : State) (x : Nat) : (s.withFreeCount x).pass = s.pass := rfl
@[simp] theorem State.withFreeCount_arb (s : State) (x : Nat) : (s.withFreeCount x).arb = s.arb := rfl
@[simp] theorem State.withFreeCount_ws (s : State) (x : Nat) : (s.withFreeCount x).ws = s.ws := rfl
@[simp] theorem State.withFreeCount_cmd (s : State) (x : Nat) : (s.withFreeCount x).cmd = s.cmd := rfl
@[simp] theorem State.withFreeCount_latch (s : State) (x : Nat) : (s.withFreeCount x).latch = s.latch := rfl
@[simp] theorem State.withFreeCount_scan (s : State) (x : Nat) : (s.withFreeCount x).scan = s.scan := rfl
@[simp] theorem State.withFreeCount_cache (s : State) (x : Nat) : (s.withFreeCount x).cache = s.cache := rfl
@[simp] theorem State.withFreeCount_switch (s : State) (x : Nat) : (s.withFreeCount x).switch = s.switch := rfl
@[simp] theorem State.withFreeCount_keys (s : State) (x : Nat) : (s.withFreeCount x).keys = s.keys := rfl
@[simp] theorem State.withFreeCount_queue (s : State) (x : Nat) : (s.withFreeCount x).queue = s.queue := rfl
@[simp] theorem State.withFreeCount_events (s : State) (x : Nat) : (s.withFreeCount x).events = s.events := rfl
@[simp] theorem State.withFreeCount_mem (s : State) (x : Nat) : (s.withFreeCount x).mem = s.mem := rfl
@[simp] theorem State.withFreeCount_freeCount (s : State) (x : Nat) : (s.withFreeCount x).freeCount = x := rfl
@[simp] theorem State.withFreeCount_pending (s : State) (x : Nat) : (s.withFreeCount x).pending = s.pending := rfl

@[simp] theorem State.withPending_pass (s : State) (x : List Instr) : (s.withPending x).pass = s.pass := rfl
@[simp] theorem State.withPending_arb (s : State) (x : List Instr) : (s.withPending x).arb = s.arb := rfl
@[simp] theorem State.withPending_ws (s : State) (x : List Instr) : (s.withPending x).ws = s.ws := rfl
@[simp] theorem State.withPending_cmd (s : State) (x : List Instr) : (s.withPending x).cmd = s.cmd := rfl
@[simp] theorem State.withPending_latch (s : State) (x : List Instr) : (s.withPending x).latch = s.latch := rfl
@[simp] theorem State.withPending_scan (s : State) (x : List Instr) : (s.withPending x).scan = s.scan := rfl
@[simp] theorem State.withPending_cache (s : State) (x : List Instr) : (s.withPending x).cache = s.cache := rfl
@[simp] theorem State.withPending_switch (s : State) (x : List Instr) : (s.withPending x).switch = s.switch := rfl
@[simp] theorem State.withPending_keys (s : State) (x : List Instr) : (s.withPending x).keys = s.keys := rfl
@[simp] theorem State.withPending_queue (s : State) (x : List Instr) : (s.withPending x).queue = s.queue := rfl
@[simp] theorem State.withPending_events (s : State) (x : List Instr) : (s.withPending x).events = s.events := rfl
@[simp] theorem State.withPending_mem (s : State) (x : List Instr) : (s.withPending x).mem = s.mem := rfl
@[simp] theorem State.withPending_freeCount (s : State) (x : List Instr) : (s.withPending x).freeCount = s.freeCount := rfl
@[simp] theorem State.withPending_pending (s : State) (x : List Instr) : (s.withPending x).pending = x := rfl

end Sys2Proof.Machine
end

