-- ==== Sys2Proof/Laws/Frames.lean ====
section
/-! SUPPORT. What each shared operation leaves as it was: one lemma per operation and untouched block. -/

namespace Sys2Proof.Machine

@[simp] theorem replaceWaiting_pass (c : Cell) (v : EntryValue) (s : State) : (replaceWaiting c v s).pass = s.pass := by unfold replaceWaiting; split <;> simp
@[simp] theorem replaceWaiting_cmd (c : Cell) (v : EntryValue) (s : State) : (replaceWaiting c v s).cmd = s.cmd := by unfold replaceWaiting; split <;> simp
@[simp] theorem replaceWaiting_latch (c : Cell) (v : EntryValue) (s : State) : (replaceWaiting c v s).latch = s.latch := by unfold replaceWaiting; split <;> simp
@[simp] theorem replaceWaiting_scan (c : Cell) (v : EntryValue) (s : State) : (replaceWaiting c v s).scan = s.scan := by unfold replaceWaiting; split <;> simp
@[simp] theorem replaceWaiting_cache (c : Cell) (v : EntryValue) (s : State) : (replaceWaiting c v s).cache = s.cache := by unfold replaceWaiting; split <;> simp
@[simp] theorem replaceWaiting_switch (c : Cell) (v : EntryValue) (s : State) : (replaceWaiting c v s).switch = s.switch := by unfold replaceWaiting; split <;> simp
@[simp] theorem replaceWaiting_keys (c : Cell) (v : EntryValue) (s : State) : (replaceWaiting c v s).keys = s.keys := by unfold replaceWaiting; split <;> simp
@[simp] theorem replaceWaiting_queue (c : Cell) (v : EntryValue) (s : State) : (replaceWaiting c v s).queue = s.queue := by unfold replaceWaiting; split <;> simp
@[simp] theorem replaceWaiting_events (c : Cell) (v : EntryValue) (s : State) : (replaceWaiting c v s).events = s.events := by unfold replaceWaiting; split <;> simp
@[simp] theorem replaceWaiting_mem (c : Cell) (v : EntryValue) (s : State) : (replaceWaiting c v s).mem = s.mem := by unfold replaceWaiting; split <;> simp
@[simp] theorem replaceWaiting_freeCount (c : Cell) (v : EntryValue) (s : State) : (replaceWaiting c v s).freeCount = s.freeCount := by unfold replaceWaiting; split <;> simp
@[simp] theorem replaceWaiting_pending (c : Cell) (v : EntryValue) (s : State) : (replaceWaiting c v s).pending = s.pending := by unfold replaceWaiting; split <;> simp

@[simp] theorem placeUpdate_pass (c : Cell) (v : EntryValue) (s : State) : (placeUpdate c v s).pass = s.pass := by unfold placeUpdate; split <;> simp
@[simp] theorem placeUpdate_cmd (c : Cell) (v : EntryValue) (s : State) : (placeUpdate c v s).cmd = s.cmd := by unfold placeUpdate; split <;> simp
@[simp] theorem placeUpdate_latch (c : Cell) (v : EntryValue) (s : State) : (placeUpdate c v s).latch = s.latch := by unfold placeUpdate; split <;> simp
@[simp] theorem placeUpdate_scan (c : Cell) (v : EntryValue) (s : State) : (placeUpdate c v s).scan = s.scan := by unfold placeUpdate; split <;> simp
@[simp] theorem placeUpdate_cache (c : Cell) (v : EntryValue) (s : State) : (placeUpdate c v s).cache = s.cache := by unfold placeUpdate; split <;> simp
@[simp] theorem placeUpdate_switch (c : Cell) (v : EntryValue) (s : State) : (placeUpdate c v s).switch = s.switch := by unfold placeUpdate; split <;> simp
@[simp] theorem placeUpdate_keys (c : Cell) (v : EntryValue) (s : State) : (placeUpdate c v s).keys = s.keys := by unfold placeUpdate; split <;> simp
@[simp] theorem placeUpdate_queue (c : Cell) (v : EntryValue) (s : State) : (placeUpdate c v s).queue = s.queue := by unfold placeUpdate; split <;> simp
@[simp] theorem placeUpdate_events (c : Cell) (v : EntryValue) (s : State) : (placeUpdate c v s).events = s.events := by unfold placeUpdate; split <;> simp
@[simp] theorem placeUpdate_mem (c : Cell) (v : EntryValue) (s : State) : (placeUpdate c v s).mem = s.mem := by unfold placeUpdate; split <;> simp
@[simp] theorem placeUpdate_freeCount (c : Cell) (v : EntryValue) (s : State) : (placeUpdate c v s).freeCount = s.freeCount := by unfold placeUpdate; split <;> simp
@[simp] theorem placeUpdate_pending (c : Cell) (v : EntryValue) (s : State) : (placeUpdate c v s).pending = s.pending := by unfold placeUpdate; split <;> simp

@[simp] theorem publish_pass (c : Cell) (s : State) : (publish c s).pass = s.pass := by unfold publish; simp
@[simp] theorem publish_cmd (c : Cell) (s : State) : (publish c s).cmd = s.cmd := by unfold publish; simp
@[simp] theorem publish_latch (c : Cell) (s : State) : (publish c s).latch = s.latch := by unfold publish; simp
@[simp] theorem publish_scan (c : Cell) (s : State) : (publish c s).scan = s.scan := by unfold publish; simp
@[simp] theorem publish_cache (c : Cell) (s : State) : (publish c s).cache = s.cache := by unfold publish; simp
@[simp] theorem publish_switch (c : Cell) (s : State) : (publish c s).switch = s.switch := by unfold publish; simp
@[simp] theorem publish_keys (c : Cell) (s : State) : (publish c s).keys = s.keys := by unfold publish; simp
@[simp] theorem publish_queue (c : Cell) (s : State) : (publish c s).queue = s.queue := by unfold publish; simp
@[simp] theorem publish_events (c : Cell) (s : State) : (publish c s).events = s.events := by unfold publish; simp
@[simp] theorem publish_mem (c : Cell) (s : State) : (publish c s).mem = s.mem := by unfold publish; simp
@[simp] theorem publish_freeCount (c : Cell) (s : State) : (publish c s).freeCount = s.freeCount := by unfold publish; simp
@[simp] theorem publish_pending (c : Cell) (s : State) : (publish c s).pending = s.pending := by unfold publish; simp

@[simp] theorem raise_pass (k : EventKind) (s : State) : (raise k s).pass = s.pass := by unfold raise; split <;> simp
@[simp] theorem raise_cmd (k : EventKind) (s : State) : (raise k s).cmd = s.cmd := by unfold raise; split <;> simp
@[simp] theorem raise_latch (k : EventKind) (s : State) : (raise k s).latch = s.latch := by unfold raise; split <;> simp
@[simp] theorem raise_scan (k : EventKind) (s : State) : (raise k s).scan = s.scan := by unfold raise; split <;> simp
@[simp] theorem raise_cache (k : EventKind) (s : State) : (raise k s).cache = s.cache := by unfold raise; split <;> simp
@[simp] theorem raise_switch (k : EventKind) (s : State) : (raise k s).switch = s.switch := by unfold raise; split <;> simp
@[simp] theorem raise_keys (k : EventKind) (s : State) : (raise k s).keys = s.keys := by unfold raise; split <;> simp
@[simp] theorem raise_queue (k : EventKind) (s : State) : (raise k s).queue = s.queue := by unfold raise; split <;> simp
@[simp] theorem raise_mem (k : EventKind) (s : State) : (raise k s).mem = s.mem := by unfold raise; split <;> simp
@[simp] theorem raise_freeCount (k : EventKind) (s : State) : (raise k s).freeCount = s.freeCount := by unfold raise; split <;> simp
@[simp] theorem raise_pending (k : EventKind) (s : State) : (raise k s).pending = s.pending := by unfold raise; split <;> simp

@[simp] theorem complete_pass (code : Word) (r : Result) (d : Word) (s : State) : (complete code r d s).pass = s.pass := by unfold complete; simp
@[simp] theorem complete_latch (code : Word) (r : Result) (d : Word) (s : State) : (complete code r d s).latch = s.latch := by unfold complete; simp
@[simp] theorem complete_scan (code : Word) (r : Result) (d : Word) (s : State) : (complete code r d s).scan = s.scan := by unfold complete; simp
@[simp] theorem complete_cache (code : Word) (r : Result) (d : Word) (s : State) : (complete code r d s).cache = s.cache := by unfold complete; simp
@[simp] theorem complete_switch (code : Word) (r : Result) (d : Word) (s : State) : (complete code r d s).switch = s.switch := by unfold complete; simp
@[simp] theorem complete_keys (code : Word) (r : Result) (d : Word) (s : State) : (complete code r d s).keys = s.keys := by unfold complete; simp
@[simp] theorem complete_queue (code : Word) (r : Result) (d : Word) (s : State) : (complete code r d s).queue = s.queue := by unfold complete; simp
@[simp] theorem complete_events (code : Word) (r : Result) (d : Word) (s : State) : (complete code r d s).events = s.events := by unfold complete; simp
@[simp] theorem complete_mem (code : Word) (r : Result) (d : Word) (s : State) : (complete code r d s).mem = s.mem := by unfold complete; simp
@[simp] theorem complete_freeCount (code : Word) (r : Result) (d : Word) (s : State) : (complete code r d s).freeCount = s.freeCount := by unfold complete; simp
@[simp] theorem complete_pending (code : Word) (r : Result) (d : Word) (s : State) : (complete code r d s).pending = s.pending := by unfold complete; simp

@[simp] theorem completeTaken_pass (r : Result) (d : Word) (s : State) : (completeTaken r d s).pass = s.pass := by unfold completeTaken; simp
@[simp] theorem completeTaken_latch (r : Result) (d : Word) (s : State) : (completeTaken r d s).latch = s.latch := by unfold completeTaken; simp
@[simp] theorem completeTaken_scan (r : Result) (d : Word) (s : State) : (completeTaken r d s).scan = s.scan := by unfold completeTaken; simp
@[simp] theorem completeTaken_cache (r : Result) (d : Word) (s : State) : (completeTaken r d s).cache = s.cache := by unfold completeTaken; simp
@[simp] theorem completeTaken_switch (r : Result) (d : Word) (s : State) : (completeTaken r d s).switch = s.switch := by unfold completeTaken; simp
@[simp] theorem completeTaken_keys (r : Result) (d : Word) (s : State) : (completeTaken r d s).keys = s.keys := by unfold completeTaken; simp
@[simp] theorem completeTaken_queue (r : Result) (d : Word) (s : State) : (completeTaken r d s).queue = s.queue := by unfold completeTaken; simp
@[simp] theorem completeTaken_events (r : Result) (d : Word) (s : State) : (completeTaken r d s).events = s.events := by unfold completeTaken; simp
@[simp] theorem completeTaken_mem (r : Result) (d : Word) (s : State) : (completeTaken r d s).mem = s.mem := by unfold completeTaken; simp
@[simp] theorem completeTaken_freeCount (r : Result) (d : Word) (s : State) : (completeTaken r d s).freeCount = s.freeCount := by unfold completeTaken; simp
@[simp] theorem completeTaken_pending (r : Result) (d : Word) (s : State) : (completeTaken r d s).pending = s.pending := by unfold completeTaken; simp

@[simp] theorem storeHost_pass (a : Nat) (l : Lanes) (d : Word) (s : State) : (storeHost a l d s).pass = s.pass := by unfold storeHost; simp
@[simp] theorem storeHost_arb (a : Nat) (l : Lanes) (d : Word) (s : State) : (storeHost a l d s).arb = s.arb := by unfold storeHost; simp
@[simp] theorem storeHost_ws (a : Nat) (l : Lanes) (d : Word) (s : State) : (storeHost a l d s).ws = s.ws := by unfold storeHost; simp
@[simp] theorem storeHost_cmd (a : Nat) (l : Lanes) (d : Word) (s : State) : (storeHost a l d s).cmd = s.cmd := by unfold storeHost; simp
@[simp] theorem storeHost_latch (a : Nat) (l : Lanes) (d : Word) (s : State) : (storeHost a l d s).latch = s.latch := by unfold storeHost; simp
@[simp] theorem storeHost_scan (a : Nat) (l : Lanes) (d : Word) (s : State) : (storeHost a l d s).scan = s.scan := by unfold storeHost; simp
@[simp] theorem storeHost_cache (a : Nat) (l : Lanes) (d : Word) (s : State) : (storeHost a l d s).cache = s.cache := by unfold storeHost; simp
@[simp] theorem storeHost_switch (a : Nat) (l : Lanes) (d : Word) (s : State) : (storeHost a l d s).switch = s.switch := by unfold storeHost; simp
@[simp] theorem storeHost_keys (a : Nat) (l : Lanes) (d : Word) (s : State) : (storeHost a l d s).keys = s.keys := by unfold storeHost; simp
@[simp] theorem storeHost_queue (a : Nat) (l : Lanes) (d : Word) (s : State) : (storeHost a l d s).queue = s.queue := by unfold storeHost; simp
@[simp] theorem storeHost_events (a : Nat) (l : Lanes) (d : Word) (s : State) : (storeHost a l d s).events = s.events := by unfold storeHost; simp
@[simp] theorem storeHost_freeCount (a : Nat) (l : Lanes) (d : Word) (s : State) : (storeHost a l d s).freeCount = s.freeCount := by unfold storeHost; simp
@[simp] theorem storeHost_pending (a : Nat) (l : Lanes) (d : Word) (s : State) : (storeHost a l d s).pending = s.pending := by unfold storeHost; simp

@[simp] theorem storeTarget_pass (t : WriteTarget) (d : Word) (s : State) : (storeTarget t d s).pass = s.pass := by unfold storeTarget; simp
@[simp] theorem storeTarget_arb (t : WriteTarget) (d : Word) (s : State) : (storeTarget t d s).arb = s.arb := by unfold storeTarget; simp
@[simp] theorem storeTarget_ws (t : WriteTarget) (d : Word) (s : State) : (storeTarget t d s).ws = s.ws := by unfold storeTarget; simp
@[simp] theorem storeTarget_cmd (t : WriteTarget) (d : Word) (s : State) : (storeTarget t d s).cmd = s.cmd := by unfold storeTarget; simp
@[simp] theorem storeTarget_latch (t : WriteTarget) (d : Word) (s : State) : (storeTarget t d s).latch = s.latch := by unfold storeTarget; simp
@[simp] theorem storeTarget_scan (t : WriteTarget) (d : Word) (s : State) : (storeTarget t d s).scan = s.scan := by unfold storeTarget; simp
@[simp] theorem storeTarget_cache (t : WriteTarget) (d : Word) (s : State) : (storeTarget t d s).cache = s.cache := by unfold storeTarget; simp
@[simp] theorem storeTarget_switch (t : WriteTarget) (d : Word) (s : State) : (storeTarget t d s).switch = s.switch := by unfold storeTarget; simp
@[simp] theorem storeTarget_keys (t : WriteTarget) (d : Word) (s : State) : (storeTarget t d s).keys = s.keys := by unfold storeTarget; simp
@[simp] theorem storeTarget_queue (t : WriteTarget) (d : Word) (s : State) : (storeTarget t d s).queue = s.queue := by unfold storeTarget; simp
@[simp] theorem storeTarget_events (t : WriteTarget) (d : Word) (s : State) : (storeTarget t d s).events = s.events := by unfold storeTarget; simp
@[simp] theorem storeTarget_freeCount (t : WriteTarget) (d : Word) (s : State) : (storeTarget t d s).freeCount = s.freeCount := by unfold storeTarget; simp
@[simp] theorem storeTarget_pending (t : WriteTarget) (d : Word) (s : State) : (storeTarget t d s).pending = s.pending := by unfold storeTarget; simp

@[simp] theorem stage_pass (e : KeyEvent) (s : State) : (stage e s).pass = s.pass := by unfold stage; simp
@[simp] theorem stage_arb (e : KeyEvent) (s : State) : (stage e s).arb = s.arb := by unfold stage; simp
@[simp] theorem stage_cmd (e : KeyEvent) (s : State) : (stage e s).cmd = s.cmd := by unfold stage; simp
@[simp] theorem stage_latch (e : KeyEvent) (s : State) : (stage e s).latch = s.latch := by unfold stage; simp
@[simp] theorem stage_scan (e : KeyEvent) (s : State) : (stage e s).scan = s.scan := by unfold stage; simp
@[simp] theorem stage_cache (e : KeyEvent) (s : State) : (stage e s).cache = s.cache := by unfold stage; simp
@[simp] theorem stage_switch (e : KeyEvent) (s : State) : (stage e s).switch = s.switch := by unfold stage; simp
@[simp] theorem stage_keys (e : KeyEvent) (s : State) : (stage e s).keys = s.keys := by unfold stage; simp
@[simp] theorem stage_events (e : KeyEvent) (s : State) : (stage e s).events = s.events := by unfold stage; simp
@[simp] theorem stage_mem (e : KeyEvent) (s : State) : (stage e s).mem = s.mem := by unfold stage; simp
@[simp] theorem stage_freeCount (e : KeyEvent) (s : State) : (stage e s).freeCount = s.freeCount := by unfold stage; simp
@[simp] theorem stage_pending (e : KeyEvent) (s : State) : (stage e s).pending = s.pending := by unfold stage; simp

@[simp] theorem setKey_pass (k : Nat) (x : Key) (s : State) : (setKey k x s).pass = s.pass := by unfold setKey; simp
@[simp] theorem setKey_arb (k : Nat) (x : Key) (s : State) : (setKey k x s).arb = s.arb := by unfold setKey; simp
@[simp] theorem setKey_ws (k : Nat) (x : Key) (s : State) : (setKey k x s).ws = s.ws := by unfold setKey; simp
@[simp] theorem setKey_cmd (k : Nat) (x : Key) (s : State) : (setKey k x s).cmd = s.cmd := by unfold setKey; simp
@[simp] theorem setKey_latch (k : Nat) (x : Key) (s : State) : (setKey k x s).latch = s.latch := by unfold setKey; simp
@[simp] theorem setKey_scan (k : Nat) (x : Key) (s : State) : (setKey k x s).scan = s.scan := by unfold setKey; simp
@[simp] theorem setKey_cache (k : Nat) (x : Key) (s : State) : (setKey k x s).cache = s.cache := by unfold setKey; simp
@[simp] theorem setKey_switch (k : Nat) (x : Key) (s : State) : (setKey k x s).switch = s.switch := by unfold setKey; simp
@[simp] theorem setKey_queue (k : Nat) (x : Key) (s : State) : (setKey k x s).queue = s.queue := by unfold setKey; simp
@[simp] theorem setKey_events (k : Nat) (x : Key) (s : State) : (setKey k x s).events = s.events := by unfold setKey; simp
@[simp] theorem setKey_mem (k : Nat) (x : Key) (s : State) : (setKey k x s).mem = s.mem := by unfold setKey; simp
@[simp] theorem setKey_freeCount (k : Nat) (x : Key) (s : State) : (setKey k x s).freeCount = s.freeCount := by unfold setKey; simp
@[simp] theorem setKey_pending (k : Nat) (x : Key) (s : State) : (setKey k x s).pending = s.pending := by unfold setKey; simp

@[simp] theorem hold_pass (k : Nat) (s : State) : (hold k s).pass = s.pass := by unfold hold; simp
@[simp] theorem hold_arb (k : Nat) (s : State) : (hold k s).arb = s.arb := by unfold hold; simp
@[simp] theorem hold_ws (k : Nat) (s : State) : (hold k s).ws = s.ws := by unfold hold; simp
@[simp] theorem hold_cmd (k : Nat) (s : State) : (hold k s).cmd = s.cmd := by unfold hold; simp
@[simp] theorem hold_latch (k : Nat) (s : State) : (hold k s).latch = s.latch := by unfold hold; simp
@[simp] theorem hold_scan (k : Nat) (s : State) : (hold k s).scan = s.scan := by unfold hold; simp
@[simp] theorem hold_cache (k : Nat) (s : State) : (hold k s).cache = s.cache := by unfold hold; simp
@[simp] theorem hold_switch (k : Nat) (s : State) : (hold k s).switch = s.switch := by unfold hold; simp
@[simp] theorem hold_queue (k : Nat) (s : State) : (hold k s).queue = s.queue := by unfold hold; simp
@[simp] theorem hold_events (k : Nat) (s : State) : (hold k s).events = s.events := by unfold hold; simp
@[simp] theorem hold_mem (k : Nat) (s : State) : (hold k s).mem = s.mem := by unfold hold; simp
@[simp] theorem hold_freeCount (k : Nat) (s : State) : (hold k s).freeCount = s.freeCount := by unfold hold; simp
@[simp] theorem hold_pending (k : Nat) (s : State) : (hold k s).pending = s.pending := by unfold hold; simp

@[simp] theorem clearTracker_pass (s : State) : (clearTracker s).pass = s.pass := by unfold clearTracker; simp
@[simp] theorem clearTracker_arb (s : State) : (clearTracker s).arb = s.arb := by unfold clearTracker; simp
@[simp] theorem clearTracker_ws (s : State) : (clearTracker s).ws = s.ws := by unfold clearTracker; simp
@[simp] theorem clearTracker_cmd (s : State) : (clearTracker s).cmd = s.cmd := by unfold clearTracker; simp
@[simp] theorem clearTracker_latch (s : State) : (clearTracker s).latch = s.latch := by unfold clearTracker; simp
@[simp] theorem clearTracker_scan (s : State) : (clearTracker s).scan = s.scan := by unfold clearTracker; simp
@[simp] theorem clearTracker_cache (s : State) : (clearTracker s).cache = s.cache := by unfold clearTracker; simp
@[simp] theorem clearTracker_switch (s : State) : (clearTracker s).switch = s.switch := by unfold clearTracker; simp
@[simp] theorem clearTracker_queue (s : State) : (clearTracker s).queue = s.queue := by unfold clearTracker; simp
@[simp] theorem clearTracker_events (s : State) : (clearTracker s).events = s.events := by unfold clearTracker; simp
@[simp] theorem clearTracker_mem (s : State) : (clearTracker s).mem = s.mem := by unfold clearTracker; simp
@[simp] theorem clearTracker_freeCount (s : State) : (clearTracker s).freeCount = s.freeCount := by unfold clearTracker; simp
@[simp] theorem clearTracker_pending (s : State) : (clearTracker s).pending = s.pending := by unfold clearTracker; simp

@[simp] theorem setPins_pass (p : Pin) (is : List PatternIndex) (s : State) : (setPins p is s).pass = s.pass := by unfold setPins; simp
@[simp] theorem setPins_arb (p : Pin) (is : List PatternIndex) (s : State) : (setPins p is s).arb = s.arb := by unfold setPins; simp
@[simp] theorem setPins_ws (p : Pin) (is : List PatternIndex) (s : State) : (setPins p is s).ws = s.ws := by unfold setPins; simp
@[simp] theorem setPins_cmd (p : Pin) (is : List PatternIndex) (s : State) : (setPins p is s).cmd = s.cmd := by unfold setPins; simp
@[simp] theorem setPins_latch (p : Pin) (is : List PatternIndex) (s : State) : (setPins p is s).latch = s.latch := by unfold setPins; simp
@[simp] theorem setPins_scan (p : Pin) (is : List PatternIndex) (s : State) : (setPins p is s).scan = s.scan := by unfold setPins; simp
@[simp] theorem setPins_switch (p : Pin) (is : List PatternIndex) (s : State) : (setPins p is s).switch = s.switch := by unfold setPins; simp
@[simp] theorem setPins_keys (p : Pin) (is : List PatternIndex) (s : State) : (setPins p is s).keys = s.keys := by unfold setPins; simp
@[simp] theorem setPins_queue (p : Pin) (is : List PatternIndex) (s : State) : (setPins p is s).queue = s.queue := by unfold setPins; simp
@[simp] theorem setPins_events (p : Pin) (is : List PatternIndex) (s : State) : (setPins p is s).events = s.events := by unfold setPins; simp
@[simp] theorem setPins_mem (p : Pin) (is : List PatternIndex) (s : State) : (setPins p is s).mem = s.mem := by unfold setPins; simp
@[simp] theorem setPins_freeCount (p : Pin) (is : List PatternIndex) (s : State) : (setPins p is s).freeCount = s.freeCount := by unfold setPins; simp
@[simp] theorem setPins_pending (p : Pin) (is : List PatternIndex) (s : State) : (setPins p is s).pending = s.pending := by unfold setPins; simp

@[simp] theorem repin_pass (f : Line → Line) (s : State) : (repin f s).pass = s.pass := by unfold repin; simp
@[simp] theorem repin_ws (f : Line → Line) (s : State) : (repin f s).ws = s.ws := by unfold repin; simp
@[simp] theorem repin_cmd (f : Line → Line) (s : State) : (repin f s).cmd = s.cmd := by unfold repin; simp
@[simp] theorem repin_latch (f : Line → Line) (s : State) : (repin f s).latch = s.latch := by unfold repin; simp
@[simp] theorem repin_scan (f : Line → Line) (s : State) : (repin f s).scan = s.scan := by unfold repin; simp
@[simp] theorem repin_switch (f : Line → Line) (s : State) : (repin f s).switch = s.switch := by unfold repin; simp
@[simp] theorem repin_keys (f : Line → Line) (s : State) : (repin f s).keys = s.keys := by unfold repin; simp
@[simp] theorem repin_queue (f : Line → Line) (s : State) : (repin f s).queue = s.queue := by unfold repin; simp
@[simp] theorem repin_events (f : Line → Line) (s : State) : (repin f s).events = s.events := by unfold repin; simp
@[simp] theorem repin_mem (f : Line → Line) (s : State) : (repin f s).mem = s.mem := by unfold repin; simp
@[simp] theorem repin_freeCount (f : Line → Line) (s : State) : (repin f s).freeCount = s.freeCount := by unfold repin; simp
@[simp] theorem repin_pending (f : Line → Line) (s : State) : (repin f s).pending = s.pending := by unfold repin; simp

@[simp] theorem removePins_pass (p : Pin) (s : State) : (removePins p s).pass = s.pass := by unfold removePins; simp
@[simp] theorem removePins_ws (p : Pin) (s : State) : (removePins p s).ws = s.ws := by unfold removePins; simp
@[simp] theorem removePins_cmd (p : Pin) (s : State) : (removePins p s).cmd = s.cmd := by unfold removePins; simp
@[simp] theorem removePins_latch (p : Pin) (s : State) : (removePins p s).latch = s.latch := by unfold removePins; simp
@[simp] theorem removePins_scan (p : Pin) (s : State) : (removePins p s).scan = s.scan := by unfold removePins; simp
@[simp] theorem removePins_switch (p : Pin) (s : State) : (removePins p s).switch = s.switch := by unfold removePins; simp
@[simp] theorem removePins_keys (p : Pin) (s : State) : (removePins p s).keys = s.keys := by unfold removePins; simp
@[simp] theorem removePins_queue (p : Pin) (s : State) : (removePins p s).queue = s.queue := by unfold removePins; simp
@[simp] theorem removePins_events (p : Pin) (s : State) : (removePins p s).events = s.events := by unfold removePins; simp
@[simp] theorem removePins_mem (p : Pin) (s : State) : (removePins p s).mem = s.mem := by unfold removePins; simp
@[simp] theorem removePins_freeCount (p : Pin) (s : State) : (removePins p s).freeCount = s.freeCount := by unfold removePins; simp
@[simp] theorem removePins_pending (p : Pin) (s : State) : (removePins p s).pending = s.pending := by unfold removePins; simp

@[simp] theorem movePins_pass (s : State) : (movePins s).pass = s.pass := by unfold movePins; simp
@[simp] theorem movePins_ws (s : State) : (movePins s).ws = s.ws := by unfold movePins; simp
@[simp] theorem movePins_cmd (s : State) : (movePins s).cmd = s.cmd := by unfold movePins; simp
@[simp] theorem movePins_latch (s : State) : (movePins s).latch = s.latch := by unfold movePins; simp
@[simp] theorem movePins_scan (s : State) : (movePins s).scan = s.scan := by unfold movePins; simp
@[simp] theorem movePins_switch (s : State) : (movePins s).switch = s.switch := by unfold movePins; simp
@[simp] theorem movePins_keys (s : State) : (movePins s).keys = s.keys := by unfold movePins; simp
@[simp] theorem movePins_queue (s : State) : (movePins s).queue = s.queue := by unfold movePins; simp
@[simp] theorem movePins_events (s : State) : (movePins s).events = s.events := by unfold movePins; simp
@[simp] theorem movePins_mem (s : State) : (movePins s).mem = s.mem := by unfold movePins; simp
@[simp] theorem movePins_freeCount (s : State) : (movePins s).freeCount = s.freeCount := by unfold movePins; simp
@[simp] theorem movePins_pending (s : State) : (movePins s).pending = s.pending := by unfold movePins; simp

@[simp] theorem ageLines_pass (s : State) : (ageLines s).pass = s.pass := by unfold ageLines; simp
@[simp] theorem ageLines_arb (s : State) : (ageLines s).arb = s.arb := by unfold ageLines; simp
@[simp] theorem ageLines_ws (s : State) : (ageLines s).ws = s.ws := by unfold ageLines; simp
@[simp] theorem ageLines_cmd (s : State) : (ageLines s).cmd = s.cmd := by unfold ageLines; simp
@[simp] theorem ageLines_latch (s : State) : (ageLines s).latch = s.latch := by unfold ageLines; simp
@[simp] theorem ageLines_scan (s : State) : (ageLines s).scan = s.scan := by unfold ageLines; simp
@[simp] theorem ageLines_switch (s : State) : (ageLines s).switch = s.switch := by unfold ageLines; simp
@[simp] theorem ageLines_keys (s : State) : (ageLines s).keys = s.keys := by unfold ageLines; simp
@[simp] theorem ageLines_queue (s : State) : (ageLines s).queue = s.queue := by unfold ageLines; simp
@[simp] theorem ageLines_events (s : State) : (ageLines s).events = s.events := by unfold ageLines; simp
@[simp] theorem ageLines_mem (s : State) : (ageLines s).mem = s.mem := by unfold ageLines; simp
@[simp] theorem ageLines_freeCount (s : State) : (ageLines s).freeCount = s.freeCount := by unfold ageLines; simp
@[simp] theorem ageLines_pending (s : State) : (ageLines s).pending = s.pending := by unfold ageLines; simp

@[simp] theorem startSlot_pass (i : Nat) (s : State) : (startSlot i s).pass = s.pass := by unfold startSlot; (repeat' split) <;> simp
@[simp] theorem startSlot_cmd (i : Nat) (s : State) : (startSlot i s).cmd = s.cmd := by unfold startSlot; (repeat' split) <;> simp
@[simp] theorem startSlot_latch (i : Nat) (s : State) : (startSlot i s).latch = s.latch := by unfold startSlot; (repeat' split) <;> simp
@[simp] theorem startSlot_cache (i : Nat) (s : State) : (startSlot i s).cache = s.cache := by unfold startSlot; (repeat' split) <;> simp
@[simp] theorem startSlot_switch (i : Nat) (s : State) : (startSlot i s).switch = s.switch := by unfold startSlot; (repeat' split) <;> simp
@[simp] theorem startSlot_keys (i : Nat) (s : State) : (startSlot i s).keys = s.keys := by unfold startSlot; (repeat' split) <;> simp
@[simp] theorem startSlot_queue (i : Nat) (s : State) : (startSlot i s).queue = s.queue := by unfold startSlot; (repeat' split) <;> simp
@[simp] theorem startSlot_mem (i : Nat) (s : State) : (startSlot i s).mem = s.mem := by unfold startSlot; (repeat' split) <;> simp
@[simp] theorem startSlot_freeCount (i : Nat) (s : State) : (startSlot i s).freeCount = s.freeCount := by unfold startSlot; (repeat' split) <;> simp
@[simp] theorem startSlot_pending (i : Nat) (s : State) : (startSlot i s).pending = s.pending := by unfold startSlot; (repeat' split) <;> simp

@[simp] theorem endLit_pass (s : State) : (endLit s).pass = s.pass := by unfold endLit; simp
@[simp] theorem endLit_arb (s : State) : (endLit s).arb = s.arb := by unfold endLit; simp
@[simp] theorem endLit_ws (s : State) : (endLit s).ws = s.ws := by unfold endLit; simp
@[simp] theorem endLit_cmd (s : State) : (endLit s).cmd = s.cmd := by unfold endLit; simp
@[simp] theorem endLit_latch (s : State) : (endLit s).latch = s.latch := by unfold endLit; simp
@[simp] theorem endLit_cache (s : State) : (endLit s).cache = s.cache := by unfold endLit; simp
@[simp] theorem endLit_switch (s : State) : (endLit s).switch = s.switch := by unfold endLit; simp
@[simp] theorem endLit_keys (s : State) : (endLit s).keys = s.keys := by unfold endLit; simp
@[simp] theorem endLit_queue (s : State) : (endLit s).queue = s.queue := by unfold endLit; simp
@[simp] theorem endLit_events (s : State) : (endLit s).events = s.events := by unfold endLit; simp
@[simp] theorem endLit_mem (s : State) : (endLit s).mem = s.mem := by unfold endLit; simp
@[simp] theorem endLit_freeCount (s : State) : (endLit s).freeCount = s.freeCount := by unfold endLit; simp
@[simp] theorem endLit_pending (s : State) : (endLit s).pending = s.pending := by unfold endLit; simp

@[simp] theorem grantHost_ws (s : State) : (grantHost s).ws = s.ws := by unfold grantHost; simp
@[simp] theorem grantHost_cmd (s : State) : (grantHost s).cmd = s.cmd := by unfold grantHost; simp
@[simp] theorem grantHost_latch (s : State) : (grantHost s).latch = s.latch := by unfold grantHost; simp
@[simp] theorem grantHost_scan (s : State) : (grantHost s).scan = s.scan := by unfold grantHost; simp
@[simp] theorem grantHost_cache (s : State) : (grantHost s).cache = s.cache := by unfold grantHost; simp
@[simp] theorem grantHost_switch (s : State) : (grantHost s).switch = s.switch := by unfold grantHost; simp
@[simp] theorem grantHost_keys (s : State) : (grantHost s).keys = s.keys := by unfold grantHost; simp
@[simp] theorem grantHost_queue (s : State) : (grantHost s).queue = s.queue := by unfold grantHost; simp
@[simp] theorem grantHost_events (s : State) : (grantHost s).events = s.events := by unfold grantHost; simp
@[simp] theorem grantHost_mem (s : State) : (grantHost s).mem = s.mem := by unfold grantHost; simp
@[simp] theorem grantHost_freeCount (s : State) : (grantHost s).freeCount = s.freeCount := by unfold grantHost; simp
@[simp] theorem grantHost_pending (s : State) : (grantHost s).pending = s.pending := by unfold grantHost; simp

@[simp] theorem takeRead_arb (a : Nat) (l : Lanes) (s : State) : (takeRead a l s).arb = s.arb := by unfold takeRead; simp
@[simp] theorem takeRead_ws (a : Nat) (l : Lanes) (s : State) : (takeRead a l s).ws = s.ws := by unfold takeRead; simp
@[simp] theorem takeRead_cmd (a : Nat) (l : Lanes) (s : State) : (takeRead a l s).cmd = s.cmd := by unfold takeRead; simp
@[simp] theorem takeRead_latch (a : Nat) (l : Lanes) (s : State) : (takeRead a l s).latch = s.latch := by unfold takeRead; simp
@[simp] theorem takeRead_scan (a : Nat) (l : Lanes) (s : State) : (takeRead a l s).scan = s.scan := by unfold takeRead; simp
@[simp] theorem takeRead_cache (a : Nat) (l : Lanes) (s : State) : (takeRead a l s).cache = s.cache := by unfold takeRead; simp
@[simp] theorem takeRead_switch (a : Nat) (l : Lanes) (s : State) : (takeRead a l s).switch = s.switch := by unfold takeRead; simp
@[simp] theorem takeRead_keys (a : Nat) (l : Lanes) (s : State) : (takeRead a l s).keys = s.keys := by unfold takeRead; simp
@[simp] theorem takeRead_queue (a : Nat) (l : Lanes) (s : State) : (takeRead a l s).queue = s.queue := by unfold takeRead; simp
@[simp] theorem takeRead_events (a : Nat) (l : Lanes) (s : State) : (takeRead a l s).events = s.events := by unfold takeRead; simp
@[simp] theorem takeRead_mem (a : Nat) (l : Lanes) (s : State) : (takeRead a l s).mem = s.mem := by unfold takeRead; simp
@[simp] theorem takeRead_freeCount (a : Nat) (l : Lanes) (s : State) : (takeRead a l s).freeCount = s.freeCount := by unfold takeRead; simp
@[simp] theorem takeRead_pending (a : Nat) (l : Lanes) (s : State) : (takeRead a l s).pending = s.pending := by unfold takeRead; simp

@[simp] theorem refuseWrite_pass (a : Nat) (l : Lanes) (c : Bool) (s : State) : (refuseWrite a l c s).pass = s.pass := by unfold refuseWrite; split <;> simp
@[simp] theorem refuseWrite_cmd (a : Nat) (l : Lanes) (c : Bool) (s : State) : (refuseWrite a l c s).cmd = s.cmd := by unfold refuseWrite; split <;> simp
@[simp] theorem refuseWrite_latch (a : Nat) (l : Lanes) (c : Bool) (s : State) : (refuseWrite a l c s).latch = s.latch := by unfold refuseWrite; split <;> simp
@[simp] theorem refuseWrite_scan (a : Nat) (l : Lanes) (c : Bool) (s : State) : (refuseWrite a l c s).scan = s.scan := by unfold refuseWrite; split <;> simp
@[simp] theorem refuseWrite_cache (a : Nat) (l : Lanes) (c : Bool) (s : State) : (refuseWrite a l c s).cache = s.cache := by unfold refuseWrite; split <;> simp
@[simp] theorem refuseWrite_switch (a : Nat) (l : Lanes) (c : Bool) (s : State) : (refuseWrite a l c s).switch = s.switch := by unfold refuseWrite; split <;> simp
@[simp] theorem refuseWrite_keys (a : Nat) (l : Lanes) (c : Bool) (s : State) : (refuseWrite a l c s).keys = s.keys := by unfold refuseWrite; split <;> simp
@[simp] theorem refuseWrite_queue (a : Nat) (l : Lanes) (c : Bool) (s : State) : (refuseWrite a l c s).queue = s.queue := by unfold refuseWrite; split <;> simp
@[simp] theorem refuseWrite_freeCount (a : Nat) (l : Lanes) (c : Bool) (s : State) : (refuseWrite a l c s).freeCount = s.freeCount := by unfold refuseWrite; split <;> simp
@[simp] theorem refuseWrite_pending (a : Nat) (l : Lanes) (c : Bool) (s : State) : (refuseWrite a l c s).pending = s.pending := by unfold refuseWrite; split <;> simp

@[simp] theorem reportNext_pass (s : State) : (reportNext s).pass = s.pass := by unfold reportNext; split <;> simp
@[simp] theorem reportNext_arb (s : State) : (reportNext s).arb = s.arb := by unfold reportNext; split <;> simp
@[simp] theorem reportNext_ws (s : State) : (reportNext s).ws = s.ws := by unfold reportNext; split <;> simp
@[simp] theorem reportNext_cmd (s : State) : (reportNext s).cmd = s.cmd := by unfold reportNext; split <;> simp
@[simp] theorem reportNext_latch (s : State) : (reportNext s).latch = s.latch := by unfold reportNext; split <;> simp
@[simp] theorem reportNext_scan (s : State) : (reportNext s).scan = s.scan := by unfold reportNext; split <;> simp
@[simp] theorem reportNext_cache (s : State) : (reportNext s).cache = s.cache := by unfold reportNext; split <;> simp
@[simp] theorem reportNext_keys (s : State) : (reportNext s).keys = s.keys := by unfold reportNext; split <;> simp
@[simp] theorem reportNext_queue (s : State) : (reportNext s).queue = s.queue := by unfold reportNext; split <;> simp
@[simp] theorem reportNext_events (s : State) : (reportNext s).events = s.events := by unfold reportNext; split <;> simp
@[simp] theorem reportNext_mem (s : State) : (reportNext s).mem = s.mem := by unfold reportNext; split <;> simp
@[simp] theorem reportNext_freeCount (s : State) : (reportNext s).freeCount = s.freeCount := by unfold reportNext; split <;> simp
@[simp] theorem reportNext_pending (s : State) : (reportNext s).pending = s.pending := by unfold reportNext; split <;> simp

@[simp] theorem beginPreparation_pass (t : List SlotRecord) (b : PatternIndex) (s : State) : (beginPreparation t b s).pass = s.pass := by unfold beginPreparation; simp
@[simp] theorem beginPreparation_arb (t : List SlotRecord) (b : PatternIndex) (s : State) : (beginPreparation t b s).arb = s.arb := by unfold beginPreparation; simp
@[simp] theorem beginPreparation_ws (t : List SlotRecord) (b : PatternIndex) (s : State) : (beginPreparation t b s).ws = s.ws := by unfold beginPreparation; simp
@[simp] theorem beginPreparation_cmd (t : List SlotRecord) (b : PatternIndex) (s : State) : (beginPreparation t b s).cmd = s.cmd := by unfold beginPreparation; simp
@[simp] theorem beginPreparation_latch (t : List SlotRecord) (b : PatternIndex) (s : State) : (beginPreparation t b s).latch = s.latch := by unfold beginPreparation; simp
@[simp] theorem beginPreparation_scan (t : List SlotRecord) (b : PatternIndex) (s : State) : (beginPreparation t b s).scan = s.scan := by unfold beginPreparation; simp
@[simp] theorem beginPreparation_keys (t : List SlotRecord) (b : PatternIndex) (s : State) : (beginPreparation t b s).keys = s.keys := by unfold beginPreparation; simp
@[simp] theorem beginPreparation_queue (t : List SlotRecord) (b : PatternIndex) (s : State) : (beginPreparation t b s).queue = s.queue := by unfold beginPreparation; simp
@[simp] theorem beginPreparation_events (t : List SlotRecord) (b : PatternIndex) (s : State) : (beginPreparation t b s).events = s.events := by unfold beginPreparation; simp
@[simp] theorem beginPreparation_mem (t : List SlotRecord) (b : PatternIndex) (s : State) : (beginPreparation t b s).mem = s.mem := by unfold beginPreparation; simp
@[simp] theorem beginPreparation_freeCount (t : List SlotRecord) (b : PatternIndex) (s : State) : (beginPreparation t b s).freeCount = s.freeCount := by unfold beginPreparation; simp
@[simp] theorem beginPreparation_pending (t : List SlotRecord) (b : PatternIndex) (s : State) : (beginPreparation t b s).pending = s.pending := by unfold beginPreparation; simp

@[simp] theorem abortPreparation_pass (s : State) : (abortPreparation s).pass = s.pass := by unfold abortPreparation; simp
@[simp] theorem abortPreparation_ws (s : State) : (abortPreparation s).ws = s.ws := by unfold abortPreparation; simp
@[simp] theorem abortPreparation_cmd (s : State) : (abortPreparation s).cmd = s.cmd := by unfold abortPreparation; simp
@[simp] theorem abortPreparation_latch (s : State) : (abortPreparation s).latch = s.latch := by unfold abortPreparation; simp
@[simp] theorem abortPreparation_scan (s : State) : (abortPreparation s).scan = s.scan := by unfold abortPreparation; simp
@[simp] theorem abortPreparation_keys (s : State) : (abortPreparation s).keys = s.keys := by unfold abortPreparation; simp
@[simp] theorem abortPreparation_queue (s : State) : (abortPreparation s).queue = s.queue := by unfold abortPreparation; simp
@[simp] theorem abortPreparation_events (s : State) : (abortPreparation s).events = s.events := by unfold abortPreparation; simp
@[simp] theorem abortPreparation_mem (s : State) : (abortPreparation s).mem = s.mem := by unfold abortPreparation; simp
@[simp] theorem abortPreparation_freeCount (s : State) : (abortPreparation s).freeCount = s.freeCount := by unfold abortPreparation; simp
@[simp] theorem abortPreparation_pending (s : State) : (abortPreparation s).pending = s.pending := by unfold abortPreparation; simp

@[simp] theorem abortDrain_pass (s : State) : (abortDrain s).pass = s.pass := by unfold abortDrain; simp
@[simp] theorem abortDrain_arb (s : State) : (abortDrain s).arb = s.arb := by unfold abortDrain; simp
@[simp] theorem abortDrain_ws (s : State) : (abortDrain s).ws = s.ws := by unfold abortDrain; simp
@[simp] theorem abortDrain_cmd (s : State) : (abortDrain s).cmd = s.cmd := by unfold abortDrain; simp
@[simp] theorem abortDrain_latch (s : State) : (abortDrain s).latch = s.latch := by unfold abortDrain; simp
@[simp] theorem abortDrain_scan (s : State) : (abortDrain s).scan = s.scan := by unfold abortDrain; simp
@[simp] theorem abortDrain_cache (s : State) : (abortDrain s).cache = s.cache := by unfold abortDrain; simp
@[simp] theorem abortDrain_switch (s : State) : (abortDrain s).switch = s.switch := by unfold abortDrain; simp
@[simp] theorem abortDrain_queue (s : State) : (abortDrain s).queue = s.queue := by unfold abortDrain; simp
@[simp] theorem abortDrain_events (s : State) : (abortDrain s).events = s.events := by unfold abortDrain; simp
@[simp] theorem abortDrain_mem (s : State) : (abortDrain s).mem = s.mem := by unfold abortDrain; simp
@[simp] theorem abortDrain_freeCount (s : State) : (abortDrain s).freeCount = s.freeCount := by unfold abortDrain; simp
@[simp] theorem abortDrain_pending (s : State) : (abortDrain s).pending = s.pending := by unfold abortDrain; simp

@[simp] theorem beginLatch_pass (p : Purpose) (s : State) : (beginLatch p s).pass = s.pass := by unfold beginLatch; simp
@[simp] theorem beginLatch_arb (p : Purpose) (s : State) : (beginLatch p s).arb = s.arb := by unfold beginLatch; simp
@[simp] theorem beginLatch_ws (p : Purpose) (s : State) : (beginLatch p s).ws = s.ws := by unfold beginLatch; simp
@[simp] theorem beginLatch_cmd (p : Purpose) (s : State) : (beginLatch p s).cmd = s.cmd := by unfold beginLatch; simp
@[simp] theorem beginLatch_scan (p : Purpose) (s : State) : (beginLatch p s).scan = s.scan := by unfold beginLatch; simp
@[simp] theorem beginLatch_cache (p : Purpose) (s : State) : (beginLatch p s).cache = s.cache := by unfold beginLatch; simp
@[simp] theorem beginLatch_switch (p : Purpose) (s : State) : (beginLatch p s).switch = s.switch := by unfold beginLatch; simp
@[simp] theorem beginLatch_keys (p : Purpose) (s : State) : (beginLatch p s).keys = s.keys := by unfold beginLatch; simp
@[simp] theorem beginLatch_queue (p : Purpose) (s : State) : (beginLatch p s).queue = s.queue := by unfold beginLatch; simp
@[simp] theorem beginLatch_events (p : Purpose) (s : State) : (beginLatch p s).events = s.events := by unfold beginLatch; simp
@[simp] theorem beginLatch_mem (p : Purpose) (s : State) : (beginLatch p s).mem = s.mem := by unfold beginLatch; simp
@[simp] theorem beginLatch_freeCount (p : Purpose) (s : State) : (beginLatch p s).freeCount = s.freeCount := by unfold beginLatch; simp
@[simp] theorem beginLatch_pending (p : Purpose) (s : State) : (beginLatch p s).pending = s.pending := by unfold beginLatch; simp

@[simp] theorem grantPart_pass (p : PartClass) (s : State) : (grantPart p s).pass = s.pass := by unfold grantPart; simp
@[simp] theorem grantPart_ws (p : PartClass) (s : State) : (grantPart p s).ws = s.ws := by unfold grantPart; simp
@[simp] theorem grantPart_cmd (p : PartClass) (s : State) : (grantPart p s).cmd = s.cmd := by unfold grantPart; simp
@[simp] theorem grantPart_latch (p : PartClass) (s : State) : (grantPart p s).latch = s.latch := by unfold grantPart; simp
@[simp] theorem grantPart_scan (p : PartClass) (s : State) : (grantPart p s).scan = s.scan := by unfold grantPart; simp
@[simp] theorem grantPart_cache (p : PartClass) (s : State) : (grantPart p s).cache = s.cache := by unfold grantPart; simp
@[simp] theorem grantPart_switch (p : PartClass) (s : State) : (grantPart p s).switch = s.switch := by unfold grantPart; simp
@[simp] theorem grantPart_keys (p : PartClass) (s : State) : (grantPart p s).keys = s.keys := by unfold grantPart; simp
@[simp] theorem grantPart_queue (p : PartClass) (s : State) : (grantPart p s).queue = s.queue := by unfold grantPart; simp
@[simp] theorem grantPart_events (p : PartClass) (s : State) : (grantPart p s).events = s.events := by unfold grantPart; simp
@[simp] theorem grantPart_mem (p : PartClass) (s : State) : (grantPart p s).mem = s.mem := by unfold grantPart; simp
@[simp] theorem grantPart_freeCount (p : PartClass) (s : State) : (grantPart p s).freeCount = s.freeCount := by unfold grantPart; simp
@[simp] theorem grantPart_pending (p : PartClass) (s : State) : (grantPart p s).pending = s.pending := by unfold grantPart; simp

end Sys2Proof.Machine
end

