-- ==== Sys2Proof/Laws/Memory.lean ====
section
/-! SUPPORT. Memory: every operation keeps the canonical form; a read after a write to the same address gives
the byte written, and every other address reads as before. -/

namespace Sys2Proof.Machine

/-! ### The canonical form -/

/-- A canonical list reads as unwritten at and below its bound. -/
theorem byteAt_of_le {m : Memory} {j a : Nat} (h : Memory.wfFrom (some j) m = true) (ha : a ≤ j) :
    byteAt m a = Config.unwritten := by
  induction m generalizing j with
  | nil => rfl
  | cons c m ih =>
    obtain ⟨k, b⟩ := c
    simp only [Memory.wfFrom, Bool.and_eq_true, decide_eq_true_eq] at h
    obtain ⟨⟨hk, -⟩, hm⟩ := h
    simp only [byteAt, show ¬ a = k by omega, if_false]
    exact ih hm (by omega)

/-- A lower bound may be lowered. -/
theorem Memory.wfFrom_mono {m : Memory} {i j : Nat} (hij : i ≤ j) (h : Memory.wfFrom (some j) m = true) :
    Memory.wfFrom (some i) m = true := by
  cases m with
  | nil => rfl
  | cons c m =>
    obtain ⟨k, b⟩ := c
    simp only [Memory.wfFrom, Bool.and_eq_true, decide_eq_true_eq] at h ⊢
    exact ⟨⟨by omega, h.1.2⟩, h.2⟩

/-- Writing a byte above the bound keeps the canonical form above that bound. -/
theorem Memory.wfFrom_putByte {m : Memory} {lo : Option Nat} {a : Nat} {b : Byte}
    (h : Memory.wfFrom lo m = true) (hlo : ∀ j ∈ lo, j < a) :
    Memory.wfFrom lo (putByte m a b) = true := by
  induction m generalizing lo with
  | nil =>
    simp only [putByte]
    split
    · rfl
    · rename_i hb
      cases lo with
      | none => simpa [Memory.wfFrom] using hb
      | some j => simpa [Memory.wfFrom] using ⟨hlo j rfl, hb⟩
  | cons c m ih =>
    obtain ⟨k, d⟩ := c
    have h' := h
    simp only [Memory.wfFrom, Bool.and_eq_true] at h'
    obtain ⟨⟨hk, hd⟩, hm⟩ := h'
    simp only [putByte]
    split
    · rename_i hak
      split
      · exact h
      · rename_i hb
        have hb' : (b != Config.unwritten) = true := by simpa using hb
        cases lo with
        | none => simp [Memory.wfFrom, hb', hd, hm, hak]
        | some j => simp [Memory.wfFrom, hb', hd, hm, hak, hlo j rfl]
    · split
      · rename_i hnot heq
        subst heq
        split
        · cases lo with
          | none =>
            cases m with
            | nil => rfl
            | cons c m =>
              obtain ⟨k', d'⟩ := c
              simp only [Memory.wfFrom, Bool.and_eq_true] at hm ⊢
              exact ⟨⟨trivial, hm.1.2⟩, hm.2⟩
          | some j => exact Memory.wfFrom_mono (Nat.le_of_lt (hlo j rfl)) hm
        · rename_i hb
          simp only [Memory.wfFrom, Bool.and_eq_true, hm]
          exact ⟨⟨hk, by simpa using hb⟩, trivial⟩
      · rename_i hlt hne
        have hka : k < a := by omega
        simp only [Memory.wfFrom, Bool.and_eq_true]
        refine ⟨⟨hk, hd⟩, ih hm ?_⟩
        intro j hj
        cases hj
        exact hka

/-- Writing a byte keeps the canonical form. -/
theorem Memory.wf_putByte {m : Memory} (h : Memory.wf m = true) (a : Nat) (b : Byte) :
    Memory.wf (putByte m a b) = true :=
  Memory.wfFrom_putByte h (by simp)

/-- Writing lanes keeps the canonical form. -/
theorem Memory.wf_putLanes {m : Memory} (h : Memory.wf m = true) (a : Nat) (l : Lanes) (d : Word) :
    Memory.wf (putLanes m a l d) = true := by
  unfold putLanes
  cases l.low <;> cases l.high <;> simp [h, Memory.wf_putByte]

/-- Reset memory is canonical. -/
theorem reset_memory_wf : Memory.wf State.reset.mem = true := rfl

/-! ### Reading after writing -/

/-- Reading after writing, in a list canonical above some bound. -/
theorem byteAt_putByte_from {m : Memory} {lo : Option Nat} (h : Memory.wfFrom lo m = true) (a : Nat)
    (b : Byte) (x : Nat) : byteAt (putByte m a b) x = if x = a then b else byteAt m x := by
  induction m generalizing lo with
  | nil =>
    simp only [putByte]
    split
    · rename_i hb
      subst hb
      simp [byteAt]
    · simp [byteAt]
  | cons c m ih =>
    obtain ⟨k, d⟩ := c
    simp only [Memory.wfFrom, Bool.and_eq_true] at h
    obtain ⟨-, hm⟩ := h
    simp only [putByte]
    split
    · rename_i hak
      split
      · rename_i hb
        subst hb
        split
        · rename_i hxa
          simp only [byteAt, show ¬ x = k by omega, if_false]
          exact byteAt_of_le hm (by omega)
        · rfl
      · simp [byteAt]
    · split
      · rename_i hnot heq
        subst heq
        split
        · rename_i hb
          subst hb
          split
          · rename_i hxa
            subst hxa
            exact byteAt_of_le hm le_rfl
          · rename_i hxa
            simp [byteAt, hxa]
        · simp only [byteAt]
          split <;> rfl
      · rename_i hlt hne
        simp only [byteAt, ih hm]
        split
        · rename_i hxk
          rw [if_neg (by omega)]
        · rfl

/-- Reading after writing: the byte written at its address, every other as before. -/
theorem byteAt_putByte {m : Memory} (h : Memory.wf m = true) (a : Nat) (b : Byte) (x : Nat) :
    byteAt (putByte m a b) x = if x = a then b else byteAt m x :=
  byteAt_putByte_from h a b x

/-- Every byte after a write of lanes. -/
theorem byteAt_putLanes {m : Memory} (h : Memory.wf m = true) (a : Nat) (l : Lanes) (d : Word) (x : Nat) :
    byteAt (putLanes m a l d) x =
      if l.high = true ∧ x = a + 1 then highByte d
      else if l.low = true ∧ x = a then lowByte d else byteAt m x := by
  unfold putLanes
  cases hl : l.low <;> cases hh : l.high <;>
    simp [byteAt_putByte, Memory.wf_putByte, h]

/-- A word read back after both its lanes were written. -/
theorem wordAt_putLanes {m : Memory} (h : Memory.wf m = true) (a : Nat) (d : Word) :
    wordAt (putLanes m a bothLanes d) a = d := by
  simp only [wordAt, byteAt_putLanes h, bothLanes, joinBytes, highByte, lowByte]
  simp only [true_and, if_true, show ¬ a = a + 1 by omega, if_false]
  ext i hi
  simp only [BitVec.getElem_append, BitVec.getElem_extractLsb']
  split <;> simp [BitVec.getLsbD_eq_getElem, hi]
  rw [show 8 + (i - 8) = i by omega]
  exact BitVec.getLsbD_eq_getElem hi

end Sys2Proof.Machine
end

