-- ==== Sys2Proof/Laws/Ops.lean ====
section
/-! SUPPORT. What each shared operation can do, said once: placing an update, a completion, a reservation,
storing. Callers cite these lemmas and do not unfold the operation. -/

namespace Sys2Proof.Machine

/-! ### The cell update list -/

/-- Replacing a value moves no cell. -/
@[simp] theorem map_cell_replaceEntry (c : Cell) (v : EntryValue) (us : List Entry) :
    (replaceEntry c v us).map Entry.cell = us.map Entry.cell := by
  simp only [replaceEntry, List.map_map]
  congr 1
  funext e
  simp only [Function.comp]
  split <;> rfl

/-- Dropping a cell's entry leaves the entries of the other cells. -/
theorem mem_dropEntry {c : Cell} {e : Entry} {us : List Entry} :
    e ∈ dropEntry c us ↔ e ∈ us ∧ e.cell ≠ c := by
  simp [dropEntry]

/-- An entry of a list with a value replaced. -/
theorem mem_replaceEntry {c : Cell} {v : EntryValue} {e : Entry} {us : List Entry} :
    e ∈ replaceEntry c v us ↔ (e ∈ us ∧ e.cell ≠ c) ∨ (e.cell = c ∧ e.value = v ∧ hasEntry c us = true) := by
  simp only [replaceEntry, List.mem_map, hasEntry, List.any_eq_true, decide_eq_true_eq]
  constructor
  · rintro ⟨x, hx, he⟩
    split at he
    · rename_i hc
      cases he
      exact .inr ⟨hc, rfl, x, hx, hc⟩
    · rename_i hc
      cases he
      exact .inl ⟨hx, hc⟩
  · rintro (⟨hm, hc⟩ | ⟨rfl, rfl, x, hx, hc⟩)
    · exact ⟨e, hm, by simp [hc]⟩
    · exact ⟨x, hx, by simp [hc]⟩

/-- The list after an update is placed: the value replaced in place, or a new entry at the end. -/
theorem updates_placeUpdate (c : Cell) (v : EntryValue) (s : State) :
    (placeUpdate c v s).ws.updates =
      if hasEntry c s.ws.updates then replaceEntry c v s.ws.updates else s.ws.updates ++ [⟨c, v⟩] := by
  unfold placeUpdate replaceWaiting
  split <;> simp_all

/-- The staging list and the record progress are not the update list's. -/
@[simp] theorem staging_placeUpdate (c : Cell) (v : EntryValue) (s : State) :
    (placeUpdate c v s).ws.staging = s.ws.staging := by
  unfold placeUpdate replaceWaiting
  (repeat' split) <;> simp

/-- The record progress is not the update list's. -/
@[simp] theorem recordProgress_placeUpdate (c : Cell) (v : EntryValue) (s : State) :
    (placeUpdate c v s).ws.recordProgress = s.ws.recordProgress := by
  unfold placeUpdate replaceWaiting
  (repeat' split) <;> simp

/-- Placing an update changes no memory cycle under way but for the mark of a replaced value. -/
theorem port_placeUpdate (c : Cell) (v : EntryValue) (s : State) :
    (placeUpdate c v s).arb.port =
      if hasEntry c s.ws.updates then markReplaced c s.arb.port else s.arb.port := by
  unfold placeUpdate replaceWaiting
  split <;> simp_all

/-- The starve counter and limit are not the write stage's. -/
@[simp] theorem starve_placeUpdate (c : Cell) (v : EntryValue) (s : State) :
    (placeUpdate c v s).arb.starveCounter = s.arb.starveCounter
      ∧ (placeUpdate c v s).arb.starveLimit = s.arb.starveLimit := by
  unfold placeUpdate replaceWaiting
  (repeat' split) <;> simp

/-- Placing an update while the port is free leaves the arbiter as it was. -/
theorem arb_placeUpdate_of_free {c : Cell} {v : EntryValue} {s : State} (h : s.arb.port = .free) :
    (placeUpdate c v s).arb = s.arb := by
  obtain ⟨pass, ⟨n, m, p⟩, ws, cmd, latch, scan, cache, switch, keys, queue, events, mem, fc, pending⟩ := s
  simp only at h
  subst h
  unfold placeUpdate replaceWaiting
  (repeat' split) <;> rfl

/-- Which cells wait after an update is placed. -/
theorem hasEntry_placeUpdate (c c' : Cell) (v : EntryValue) (s : State) :
    hasEntry c' (placeUpdate c v s).ws.updates = (hasEntry c' s.ws.updates || decide (c' = c)) := by
  rw [Bool.eq_iff_iff]
  simp only [hasEntry, List.any_eq_true, decide_eq_true_eq, Bool.or_eq_true]
  rw [updates_placeUpdate]
  split
  · rename_i h
    simp only [hasEntry, List.any_eq_true, decide_eq_true_eq] at h
    constructor
    · rintro ⟨e, he, hc⟩
      rcases mem_replaceEntry.1 he with ⟨hm, -⟩ | ⟨h1, -, -⟩
      · exact .inl ⟨e, hm, hc⟩
      · exact .inr (hc.symm.trans h1)
    · rintro (⟨e, he, hc⟩ | rfl)
      · by_cases hcc : e.cell = c
        · exact ⟨⟨c, v⟩, mem_replaceEntry.2 (.inr ⟨rfl, rfl, by simpa [hasEntry] using h⟩), hcc.symm.trans hc⟩
        · exact ⟨e, mem_replaceEntry.2 (.inl ⟨he, hcc⟩), hc⟩
      · exact ⟨⟨c', v⟩, mem_replaceEntry.2 (.inr ⟨rfl, rfl, by simpa [hasEntry] using h⟩), rfl⟩
  · simp only [List.mem_append, List.mem_singleton]
    constructor
    · rintro ⟨e, he | rfl, hc⟩
      · exact .inl ⟨e, he, hc⟩
      · exact .inr hc.symm
    · rintro (⟨e, he, hc⟩ | rfl)
      · exact ⟨e, .inl he, hc⟩
      · exact ⟨⟨c', v⟩, .inr rfl, rfl⟩

/-! ### Events, completions, reservations -/

/-- The event unit after a raise: the kind joins, and INT is decided when it was not pending. -/
theorem events_raise (k : EventKind) (s : State) :
    (raise k s).events =
      if hasKind s.events.pendingSet k then s.events
      else withPendingSet s.events (s.events.pendingSet ||| kindBit k) := by
  unfold raise
  split <;> simp

/-- The command unit after a completion. -/
@[simp] theorem cmd_complete (code : Word) (r : Result) (d : Word) (s : State) :
    (complete code r d s).cmd = completing code r d s := by
  simp [complete]

/-- A reservation is granted exactly when there is room, and then stages its event. -/
theorem reserve_eq_some_iff (e : KeyEvent) (s t : State) :
    reserve e s = some t ↔ canReserve s = true ∧ t = stage e s := by
  cases h : canReserve s <;> simp [reserve, h, eq_comm]

/-- A refusal changes nothing. -/
theorem reserve_eq_none_iff (e : KeyEvent) (s : State) : reserve e s = none ↔ canReserve s = false := by
  cases h : canReserve s <;> simp [reserve, h]

/-! ### Memory of a state -/

/-- The memory of a host write's store. -/
@[simp] theorem mem_storeHost (a : Nat) (l : Lanes) (d : Word) (s : State) :
    (storeHost a l d s).mem = putLanes s.mem (wordAddr a) l d := rfl

/-- The memory of a write stage write's store. -/
@[simp] theorem mem_storeTarget (t : WriteTarget) (d : Word) (s : State) :
    (storeTarget t d s).mem = putLanes s.mem (windowAddr s (targetOffset t)) bothLanes d := rfl

/-! ### The scan engine's moment -/

/-- A moment with nothing left to come about is left as it is. -/
theorem settleMoment_of_settled (s : State) (h₁ : s.scan.phase ≠ .boundaryTaken)
    (h₂ : ¬ (s.scan.phase = .onTime ∧ s.scan.ticksRemaining = 0)) : settleMoment s = s := by
  simp only [settleMoment, if_neg h₁, if_neg h₂]

/-- An on-time with no tick left ends. -/
theorem settleMoment_of_onTime_over (s : State) (h₁ : s.scan.phase = .onTime) (h₂ : s.scan.ticksRemaining = 0) :
    settleMoment s = endOnTime s.scan.senseLines s := by
  simp [settleMoment, h₁, h₂]

/-- A slot 0 left to start may be started by hand first. -/
theorem settleMoment_startSlot (s : State) (h : s.scan.phase = .boundaryTaken) :
    settleMoment (startSlot 0 s) = settleMoment s := by
  by_cases hb : (startSlot 0 s).scan.phase = .boundaryTaken
  · have : startSlot 0 s = s := by
      unfold startSlot at hb ⊢
      (repeat' split at hb) <;> simp_all [slotEngine]
    rw [this]
  · simp only [settleMoment, if_pos h, if_neg hb]

end Sys2Proof.Machine
end

