-- ==== Sys2Proof/Laws/Port.lean ====
section
/-! SUPPORT. The memory port: what a granted host cycle is, and what a row that takes a host write does with
it. -/

namespace Sys2Proof.Machine

/-- The arbiter grants the waiting cycle exactly when `HostGranted` says so. -/
theorem hostGrant_eq_some_iff (s : State) (c : HostCycle) : hostGrant s = some c ↔ HostGranted s c := by
  unfold hostGrant HostGranted canDecide
  cases s.pass.resetHeld <;> cases hp : s.arb.port <;> cases hf : firstPart s <;> simp [and_comm]

/-- A granted cycle is the one the arbiter's decision takes. -/
theorem hostGrant_of_granted {s : State} {c : HostCycle} (h : HostGranted s c) : hostGrant s = some c :=
  (hostGrant_eq_some_iff s c).2 h

/-- The grant moves no cell. -/
@[simp] theorem destination_grantHost (s : State) (a : Nat) (l : Lanes) :
    destination (grantHost s) a l = destination s a l := rfl

/-- A row whose kind of write is granted takes that write. -/
theorem takeRow_of_granted {kind : Nat → Lanes → Word → State → Bool} {s : State} {a : Nat} {l : Lanes}
    {d : Word} (h : HostGranted s (.write a l d)) (hk : kind a l d s = true) :
    takeRow kind s = takeWrite a l d (grantHost s) := by
  simp [takeRow, hostGrant_of_granted h, hk]

/-- A row in a state in which no write of its kind is granted changes nothing. -/
theorem takeRow_of_not_granted {kind : Nat → Lanes → Word → State → Bool} {s : State}
    (h : ∀ a l d, HostGranted s (.write a l d) → kind a l d s = false) : takeRow kind s = s := by
  unfold takeRow
  split
  · rename_i a l d hg
    simp [h a l d ((hostGrant_eq_some_iff s _).1 hg)]
  · rfl

/-- The state of a granted host write that has reached memory. -/
theorem storeHost_grantHost (s : State) (a : Nat) (l : Lanes) (d : Word) :
    storeHost a l d (grantHost s) = written s a l d := rfl

/-- While a host cycle is granted, the port is free. -/
theorem port_grantHost {s : State} {c : HostCycle} (h : HostGranted s c) : (grantHost s).arb.port = .free :=
  h.2.1

/-- A granted host cycle is what ARBITER_DECISION takes. -/
theorem decidePort_of_granted {s : State} {c : HostCycle} (h : HostGranted s c) :
    decidePort s = takeCycle c (grantHost s) := by
  simp [decidePort, hostGrant_of_granted h]

end Sys2Proof.Machine
end

