-- ==== Sys2Proof/Tests/Slice0.lean ====
section
/-! SUPPORT. Tests on small states, expected results taken from the manual's tables and worked sequences, and,
for each statement of Certificates/Slice0/Obligations.lean that has hypotheses, a named state and operands that
meet them together (`witness_<statement>`). -/

namespace Sys2Proof.Tests

open Sys2Proof Sys2Proof.Machine

/-! ### Small states -/

/-- Both lanes, the low lane, the high lane, none. -/
def both : Lanes := ⟨true, true⟩
def low : Lanes := ⟨true, false⟩
def high : Lanes := ⟨false, true⟩
def neither : Lanes := ⟨false, false⟩

/-- After the initial publication: RESET released with straps 0, nothing waits, the command unit is IDLE. -/
def live : State :=
  { State.reset with
    pass := { State.reset.pass with resetHeld := false },
    cmd := { State.reset.cmd with unit := .idle } }

/-- A host cycle waits. -/
def waits (c : HostCycle) (s : State) : State :=
  s.withPass { s.pass with waiting := some c, waitLine := true }

/-- A both-lane host write waits. -/
def writes (a : Nat) (d : Word) (s : State) : State := waits (.write a both d) s

/-- A command runs. -/
def busy (code : Word) (s : State) : State :=
  s.withCmd { s.cmd with unit := .busy, cellValue := code, taken := some code }

/-- A memory cycle is under way. -/
def under (p : PortCycle) (s : State) : State := s.withArb { s.arb with port := p }

/-- RUNNING with this table, in this phase with these ticks remaining, the last slot shown. -/
def running (table : List SlotRecord) (phase : Phase) (ticks : Nat) (s : State) : State :=
  s.withScan { s.scan with
    state := .running, table := table, slotIndex := table.length - 1, phase := phase,
    ticksRemaining := ticks }

/-- A grid slot, with or without the sense mark. -/
def gridSlot (sense : Bool) (offset : PatternIndex) : SlotRecord := ⟨some 1, sense, offset, 40⟩

/-- One line of the cache set, the others EMPTY. -/
def withLine (n : Nat) (l : Line) (fills : List FillEntry) (s : State) : State :=
  s.withCache ⟨s.cache.lines.set n l, fills⟩

/-- A VALID line and a FILLING one. -/
def validLine (idx : PatternIndex) (level : Byte) : Line := ⟨.valid, idx, 2, 0x7F, level, true, false, 0⟩
def fillingLine (idx : PatternIndex) (words : Nat) (current : Bool) : Line :=
  ⟨.filling, idx, words, 0, 0, current, !current, 0⟩

/-- The key table with keys 9 and 11 DOWN (4.10). -/
def twoDown : List Key :=
  (State.reset.keys.table.set 9 ⟨true, 0, false⟩).set 11 ⟨true, 0, false⟩

/-- The configuration cells of 6.8, and the table of one slot. -/
def image12 : List Word := [10, 2, 12, 2, 30, 6, 3, 0, 8, 4, 3, 200]

/-- STARTING with a latch that has read all but the last word. -/
def lastWord (purpose : Purpose) (image : List Word) (r : RawRecord) (s : State) : State :=
  under (.latch 0x104) (s.withLatch ⟨.reading, purpose, 0, [], image, [r]⟩)

/-! ### Well-formedness and decoding -/

theorem test_wellFormed_top_address : (Instr.hostCyclePresented (.read 0xFFFFF both)).wellFormed = true := by
  decide

theorem test_wellFormed_refuses_address : (Instr.hostCyclePresented (.read 0x100000 both)).wellFormed = false := by
  decide

theorem test_no_word_decodes : decodeTableWord 16 3 = none := by decide

/-! ### The manual's tables and worked sequences -/

/-- The table of R10: on-time, global level, raw level, lit ticks. -/
theorem test_lit_ticks :
    ∀ r ∈ [(40, 15, 15, 40), (40, 15, 8, 21), (40, 8, 15, 21), (40, 15, 1, 2), (40, 0, 15, 0),
        (255, 7, 200, 119), (10, 15, 1, 0), (1, 15, 14, 0)],
      litTicksOf r.1 r.2.1 (some ⟨0, min 15 r.2.2.1⟩) = r.2.2.2 := by decide

/-- The flags bytes of R154: FCh carries neither mark, 83h both. -/
theorem test_marks :
    senseMark ⟨0, 0xFC, 0, 0⟩ = false ∧ lastMark ⟨0, 0xFC, 0, 0⟩ = false
      ∧ senseMark ⟨0, 0x83, 0, 0⟩ = true ∧ lastMark ⟨0, 0x83, 0, 0⟩ = true := by decide

/-- The read order of R97: the last cell, then words +0, +2, +4 of records 0 and 1. -/
theorem test_read_order :
    nextReadOffset ⟨.reading, .start, 0, List.replicate 11 0, [], []⟩ = 0x036
      ∧ nextReadOffset ⟨.reading, .start, 0, List.replicate 12 0, [], []⟩ = 0x100
      ∧ nextReadOffset ⟨.reading, .reload, 0, List.replicate 2 0, [], []⟩ = 0x104
      ∧ nextReadOffset ⟨.reading, .reload, 0, List.replicate 3 0, [], []⟩ = 0x108 := by decide

/-- The image of 6.8 passes; a global level of 16 fails at 024h (R102). -/
theorem test_config_checks :
    checkConfig image12 = none ∧ checkConfig (image12.set 2 16) = some 0x024 := by decide

/-- The checks of R103 at record 1: a repeated sense grid, a sense mark on a dark slot, an offset, an on-time. -/
theorem test_table_checks :
    checkTable [⟨3, 1, 0, 40⟩, ⟨3, 3, 0, 40⟩] = some 0x108
      ∧ checkTable [⟨3, 1, 0, 40⟩, ⟨255, 3, 0, 40⟩] = some 0x108
      ∧ checkTable [⟨3, 1, 0, 40⟩, ⟨4, 2, 512, 40⟩] = some 0x10A
      ∧ checkTable [⟨3, 1, 0, 40⟩, ⟨4, 2, 511, 256⟩] = some 0x10C := by decide

/-- The words of an event record (R156): a REPEAT of key 11. -/
theorem test_record_words :
    (List.range 4).map (recordWord ⟨⟨.repeatKey, 11, 4, 2⟩, 0x21, 0x1234, 0⟩) = [0x0B03, 0x0421, 0x1234, 2] := by
  decide

/-- The allocation of 2.7: lines of equal age 33, the lower number; an EMPTY line before any. -/
theorem test_allocation :
    chooseLine 45 [⟨.valid, 1, 2, 0, 0, true, false, 1⟩, ⟨.valid, 2, 2, 0, 0, false, false, 41⟩,
        ⟨.valid, 3, 2, 0, 0, false, false, 12⟩, ⟨.valid, 4, 2, 0, 0, false, false, 12⟩] = some 2
      ∧ chooseLine 45 [⟨.valid, 3, 2, 0, 0, false, false, 12⟩, Line.emptied] = some 1 := by decide

/-- The consumer writes of 5.8: 2 is valid at step 3, 0 invalid at step 7. -/
theorem test_consumer_check :
    validConsumer ⟨4, 3, 0, 0, none, false⟩ 2 = true ∧ validConsumer ⟨4, 3, 2, 0, none, false⟩ 0 = false := by
  decide

/-- The reservations of 5.8: granted at step 5, refused at step 6. -/
theorem test_reservation :
    canReserve ((live.withQueue ⟨4, 3, 2, 19, none, false⟩).withWs
        ⟨[], [⟨⟨.press, 1, 0, 1⟩, 18, 0, 3⟩], 0⟩) = true
      ∧ canReserve ((live.withQueue ⟨4, 3, 2, 20, none, false⟩).withWs
        ⟨[], [⟨⟨.press, 1, 0, 1⟩, 18, 0, 3⟩, ⟨⟨.release, 1, 0, 0⟩, 19, 0, 0⟩], 0⟩) = false := by decide

/-- The resulting values of R112: a high-lane write of 1 in IDLE is 256. -/
theorem test_resulting_value :
    resultingValue both 3 live = 3 ∧ resultingValue low 0x0703 live = 3 ∧ resultingValue high 0x0100 live = 256 := by
  decide

/-- Decision 3 of 10.5: the counter at the limit gives the grant to DEMAND. -/
theorem test_starved_grant :
    (decidePort ((withLine 0 (fillingLine 5 0 true) [⟨0, .demand⟩]
        (writes 0x3000 0 live)).withArb ⟨2, 2, .free⟩)).arb = ⟨0, 2, .fill 0 5 0 false⟩ := by decide

/-- Boundary b1 of 3.8 with timeout 1: a LATE switch, detail 1. -/
theorem test_late_switch :
    (takeBoundary ((busy 3 (running [gridSlot false 0] .gap 1 live)).withSwitch
        ⟨.preparing, [gridSlot false 0], 100, 0, 1⟩)).cmd.record = ⟨3, 5, 1, 1⟩ := by decide

/-- R7: the last tick of the last slot's gap is the boundary, and slot 0 starts in it; no tick passes between. -/
theorem test_frame_length :
    (scanTick (running [gridSlot false 0] .gap 1 live)).scan.phase = .onTime
      ∧ (scanTick (running [gridSlot false 0] .gap 1 live)).scan.ticksRemaining = 40
      ∧ (scanTick (running [gridSlot false 0] .gap 1 live)).scan.frameCounter = 1
      ∧ (scanTick (running [gridSlot false 0] .boundaryTaken 0 live)).scan.ticksRemaining = 39 := by decide

/-- The last tick of a slot lit for its whole on-time of 40, gap ticks 2. -/
def fullyLit : State :=
  let s := running [gridSlot false 0] .onTime 1 live
  s.withScan { s.scan with litTicks := 40, gapTicks := 2, gridLines := 2, segLines := 1 }

/-- R11: lit ticks that fill the on-time run out by LIT_TICKS_END, the on-time is over, and the next tick is the
gap's first. -/
theorem test_full_lit_ticks :
    (endLit fullyLit).scan.ticksRemaining = 0 ∧ (scanTick (endLit fullyLit)).scan.phase = .gap
      ∧ (scanTick (endLit fullyLit)).scan.ticksRemaining = 1 ∧ (scanTick (endLit fullyLit)).scan.gridLines = 0 := by
  decide

/-- Key 13 in frame 43 of 4.10: refused for rollover, JAM staged with down count 2. -/
theorem test_jam :
    (observeKey 13 true (live.withKeys { live.keys with
        table := twoDown.set 13 ⟨false, 1, false⟩, debounce := 2 })).ws.staging.map StagedEvent.event
      = [⟨.jam, 255, 0, 2⟩] := by decide

/-- Step 6 of 8.6: clearing QUEUE_DATA of QD, UR releases INT while only CD, QD are enabled. -/
theorem test_clear_pending :
    (writePending 0x010 low 2 (live.withEvents ⟨0b10010, 0b00011, true⟩)).events = ⟨0b10000, 0b00011, false⟩ := by
  decide

/-! ### Witnesses of the laws -/

/-- `live`, with a host cycle waiting to be presented: it meets every law. -/
def queued : State := live.withPending [.hostCyclePresented (.write 0x400 both 5)]

theorem lines_empty (l : Line) (h : l ∈ queued.cache.lines) : l = Line.emptied :=
  List.eq_of_mem_replicate h

theorem keys_up (k : Key) (h : k ∈ queued.keys.table) : k = Key.up := List.eq_of_mem_replicate h

theorem queued_lines_safe : LinesSafe queued :=
  ⟨by decide, by decide, by decide, by decide, Or.inl rfl, by decide⟩

theorem queued_queue_law : QueueLaw queued :=
  ⟨by decide, by decide, by decide, by decide, by decide, by decide, by decide, by decide, by decide, trivial⟩

theorem queued_key_law : KeyLaw queued :=
  ⟨rfl, by decide, fun x h => by rw [keys_up x h]; decide, by decide, by decide, by decide, by decide, by decide,
    by decide, by decide, by decide, by decide, by decide, by decide, by decide, by decide⟩

theorem queued_command_law : CommandLaw queued :=
  ⟨by decide, fun _ => rfl, rfl, rfl, ⟨rfl, fun _ _ => nofun⟩, rfl, rfl, rfl, nofun, rfl⟩

theorem queued_cache_law : CacheLaw queued :=
  ⟨rfl, fun l h => by rw [lines_empty l h]; exact ⟨rfl, rfl, rfl, rfl⟩,
    List.pairwise_replicate.2 (Or.inr fun h => absurd rfl h), by decide, by decide, by decide, by decide⟩

theorem queued_cache_follows : CacheFollowsMemory queued :=
  ⟨queued_queue_law, queued_cache_law, ⟨0, by decide, rfl⟩, ⟨trivial, nofun⟩, trivial, by decide,
    fun l h hs => absurd (by rw [lines_empty l h]; rfl) hs⟩

theorem queued_published : PublishedCellsLaw queued :=
  ⟨queued_command_law, queued_queue_law, ⟨0, by decide, rfl⟩, by decide, nofun, List.Pairwise.nil, trivial,
    by decide, by decide, by decide, by decide, by decide, by decide⟩

theorem witness_MemoryStaysCanonical : ∃ t, MemoryCanonical queued ∧ step queued = .next t := ⟨_, rfl, rfl⟩
theorem witness_LinesStaySafe : ∃ t, LinesSafe queued ∧ step queued = .next t := ⟨_, queued_lines_safe, rfl⟩
theorem witness_QueueStaysWithinRing : ∃ t, QueueLaw queued ∧ step queued = .next t := ⟨_, queued_queue_law, rfl⟩
theorem witness_KeysStayLawful : ∃ t, KeyLaw queued ∧ step queued = .next t := ⟨_, queued_key_law, rfl⟩
theorem witness_OneCommandRuns : ∃ t, CommandLaw queued ∧ step queued = .next t := ⟨_, queued_command_law, rfl⟩
theorem witness_CacheStaysLawful : ∃ t, CacheLaw queued ∧ step queued = .next t := ⟨_, queued_cache_law, rfl⟩
theorem witness_CacheFollowsPatternArea :
    ∃ t, MemoryCanonical queued ∧ CacheFollowsMemory queued ∧ step queued = .next t :=
  ⟨_, rfl, queued_cache_follows, rfl⟩
theorem witness_PublishedCellsFollowPart :
    ∃ t, MemoryCanonical queued ∧ PublishedCellsLaw queued ∧ step queued = .next t :=
  ⟨_, rfl, queued_published, rfl⟩

/-! ### The step, reset and the port -/

theorem witness_StepRunsFrontCommand :
    (live.withPending [.frameBoundary, .abort]).pending = .frameBoundary :: [.abort] := rfl

/-- One state for each clause, the tick counts at their boundary. -/
theorem witness_EmptyQueueIsScanTick :
    live.pending = [] ∧ live.scan.state ≠ .running
      ∧ (∀ p ∈ [(Phase.boundaryTaken, 0), (.onTime, 0), (.onTime, 1), (.gap, 1), (.gap, 2), (.onTime, 2)],
          (running [gridSlot false 0] p.1 p.2 live).pending = []
            ∧ (running [gridSlot false 0] p.1 p.2 live).scan.state = .running
            ∧ (running [gridSlot false 0] p.1 p.2 live).scan.table[0]? = some (gridSlot false 0)) := by decide

theorem witness_WellFormedCommandsComplete :
    (Instr.hostCyclePresented (.write 0xFFFFF both 1)).wellFormed = true
      ∧ (Instr.hostCyclePresented (.write 0x100000 both 1)).wellFormed = false := by decide

theorem granted (a : Nat) (d : Word) : HostGranted (writes a d live) (.write a both d) :=
  ⟨rfl, rfl, rfl, Or.inl rfl⟩

theorem writes_reach (a : Nat) (d : Word) (dst : Destination) (h : destination live a both = dst) :
    WriteGranted (writes a d live) a both d dst := ⟨granted a d, h⟩

theorem witness_HostWriteRowsStoreOnlyTheirWord :
    ∃ t, MemoryCanonical (writes 0x400 5 live) ∧ HostGranted (writes 0x400 5 live) (.write 0x400 both 5)
      ∧ exec .patternWrite (writes 0x400 5 live) = .next t := ⟨_, rfl, granted _ _, rfl⟩

theorem witness_PartWriteRowsStoreOnlyTheirWord :
    ∃ t, MemoryCanonical (under (.write (.record 2 1) 7 false) live)
      ∧ exec .writeStageWriteDone (under (.write (.record 2 1) 7 false) live) = .next t := ⟨_, rfl, rfl⟩

theorem witness_OtherRowsStoreNothing : ∃ t, exec (.resetReleased 15) State.reset = .next t := ⟨_, rfl⟩

/-- One state with no part write under way, one with. -/
theorem witness_ResetAssertedResetsEveryBlock :
    live.pass.resetHeld = false ∧ live.arb.port = .free
      ∧ (under (.write (.cell .pending) 3 false) live).pass.resetHeld = false := by decide

theorem witness_ResetReleasedPlacesInitialPublication :
    State.reset.pass.resetHeld = true ∧ State.reset.ws.updates = [] ∧ State.reset.events = .lineReset
      ∧ State.reset.queue = .lineReset ∧ State.reset.cmd = .lineReset ∧ State.reset.scan.state = .off
      ∧ State.reset.scan.table = [] ∧ State.reset.scan.frameBase = 0 := by decide

/-- The last address inside, the first outside; RESET held and not; a cycle waiting and none. -/
theorem witness_HostCyclePresentedWaits :
    (HostCycle.read 0xFFFFF both).addr < 1048576 ∧ 1048576 ≤ (HostCycle.read 0x100000 both).addr
      ∧ live.pass.resetHeld = false ∧ live.pass.waiting = none ∧ State.reset.pass.resetHeld = true
      ∧ (writes 0x400 5 live).pass.waiting.isSome = true := by decide

/-- A line waiting to be filled gives a part class that waits. -/
def filling (cls : FillClass) (s : State) : State := withLine 0 (fillingLine 5 1 (cls = .demand)) [⟨0, cls⟩] s

theorem witness_ArbiterDecisionFollowsTable :
    (waits (.read 0 both) live).arb.port = .free ∧ firstPart (waits (.read 0 both) live) = none
      ∧ firstPart (filling .demand (writes 0 5 live)) = some .demand
      ∧ (filling .demand (writes 0 5 live)).arb.starveCounter < (filling .demand live).arb.starveLimit
      ∧ (filling .demand live).pass.waiting = none ∧ (filling .demand live).pass.resetHeld = false := by decide

theorem witness_GrantedPartCycleIsNextWork :
    (filling .prefetch live).cache.fills = [⟨0, .prefetch⟩]
      ∧ (filling .prefetch live).cache.lines[0]? = some (fillingLine 5 1 false)
      ∧ (filling .prefetch live).ws.updates = [] ∧ (filling .prefetch live).latch.progress ≠ .reading
      ∧ (publish .pending live).ws.updates = [⟨.pending, .word 0⟩]
      ∧ (complete 2 .done 0 live).ws.updates = [⟨.statusRecord, .status ⟨2, 1, 1, 0⟩ 0⟩, ⟨.command, .word 0⟩]
      ∧ (stage ⟨.press, 9, 0, 1⟩ live).ws.staging = [⟨⟨.press, 9, 0, 1⟩, 0, 0, 0⟩]
      ∧ (live.withLatch ⟨.reading, .start, 0, [], [], []⟩).latch.progress = .reading := by decide

/-- The words of a status record and of a staged event's record, the last of each. -/
theorem witness_granted_words :
    (⟨.statusRecord, .status ⟨2, 1, 1, 9⟩ 3⟩ : Entry) ∈ (live.withWs ⟨[⟨.statusRecord, .status ⟨2, 1, 1, 9⟩ 3⟩], [], 0⟩).ws.updates
      ∧ (3, (9 : Word)) ∈ [(0, (2 : Word)), (1, 1), (2, 1), (3, 9)]
      ∧ (live.withWs ⟨[], [⟨⟨.jam, 255, 0, 2⟩, 7, 43, 0⟩], 3⟩).ws.recordProgress = 3
      ∧ (3, joinBytes 0 (2 : Byte)) ∈ [(0, joinBytes 255 (4 : Byte)), (1, joinBytes 0 7), (2, (43 : Word)),
          (3, joinBytes 0 2)] := by decide

/-- The boundary offsets of every clause, odd addresses among them. -/
theorem witness_WindowOffsetDecidesOwner :
    (∀ p ∈ [(0x000, Destination.command), (0x001, .command), (0x003, .argument), (0x008, .published 0x008),
        (0x00F, .published 0x00E), (0x010, .pendingCell), (0x012, .enableCell), (0x018, .published 0x018),
        (0x01A, .consumerCell), (0x01F, .published 0x01E), (0x024, .globalLevel), (0x020, .plain),
        (0x037, .plain), (0x100, .plain), (0x1BF, .plain), (0x400, .pattern 0x400), (0xBFF, .pattern 0xBFE),
        (0x007, .plain), (0x016, .plain), (0x038, .plain), (0x0FF, .plain), (0x1C0, .plain), (0x3FF, .plain),
        (0xC00, .plain), (0x1FFF, .plain), (0x2000, .plain)], destination live p.1 both = p.2)
      ∧ (∀ a ∈ [0x020, 0x037, 0x100, 0x1BF],
          destination (live.withLatch ⟨.reading, .start, 0, [], [], []⟩) a both = .watched (a / 2 * 2))
      ∧ destination live 0 neither = .plain := by decide

/-! ### Host writes -/

theorem witness_PlainWritesReachMemory :
    WriteGranted (writes 0x2000 7 live) 0x2000 both 7 .plain
      ∧ WriteGranted (writes 0x002 7 live) 0x002 both 7 .argument
      ∧ WriteGranted (writes 0x012 7 live) 0x012 both 7 .enableCell :=
  ⟨writes_reach _ _ _ rfl, writes_reach _ _ _ rfl, writes_reach _ _ _ rfl⟩

theorem witness_PublishedCellWriteCarriesPartValue :
    WriteGranted (writes 0x008 7 live) 0x008 both 7 (.published 0x008)
      ∧ WriteGranted (writes 0x01E 7 live) 0x01E both 7 (.published 0x01E)
      ∧ (live.scan.state, (0 : Byte)) ∈ [(ScanState.off, (0 : Byte)), (.starting, 1), (.running, 2)] :=
  ⟨writes_reach _ _ _ rfl, writes_reach _ _ _ rfl, by decide⟩

theorem witness_PendingCellWriteRemovesKinds : WriteGranted (writes 0x010 0xFF live) 0x010 both 0xFF .pendingCell :=
  writes_reach _ _ _ rfl

/-- A valid value, v = C, and the least invalid one. -/
theorem witness_ConsumerCellWriteIsJudged :
    WriteGranted (writes 0x01A 0 live) 0x01A both 0 .consumerCell ∧ (0 + 16 - 0) % 16 ≤ queueCount live.queue
      ∧ WriteGranted (writes 0x01A 1 live) 0x01A both 1 .consumerCell
      ∧ ¬ (1 + 16 - 0) % 16 ≤ queueCount live.queue :=
  ⟨writes_reach _ _ _ rfl, by decide, writes_reach _ _ _ rfl, by decide⟩

/-- A latch that has read 024h and 100h, with this restart count. -/
def reading (p : Purpose) (restarts : Nat) (s : State) : State :=
  s.withLatch ⟨.reading, p, restarts, [0x024, 0x100], [], []⟩

theorem witness_GlobalLevelWriteSetsPending :
    WriteGranted (writes 0x024 20 live) 0x024 both 20 .globalLevel
      ∧ WriteGranted (writes 0x024 20 (reading .start 2 live)) 0x024 both 20 .globalLevel
      ∧ WriteGranted (writes 0x024 20 (reading .start 3 live)) 0x024 both 20 .globalLevel :=
  ⟨writes_reach _ _ _ rfl, ⟨⟨rfl, rfl, rfl, Or.inr (by decide)⟩, rfl⟩,
    ⟨⟨rfl, rfl, rfl, Or.inr (by decide)⟩, rfl⟩⟩

theorem witness_PatternWriteIsFollowed :
    WriteGranted (writes 0x400 7 live) 0x400 both 7 (.pattern 0x400)
      ∧ WriteGranted (writes 0xBFE 7 live) 0xBFE both 7 (.pattern 0xBFE) :=
  ⟨writes_reach _ _ _ rfl, writes_reach _ _ _ rfl⟩

/-- A word not read, and words read at restart counts 2 and 3, for both purposes. -/
theorem witness_TableWriteTearsLatch :
    (∀ n, WriteGranted (writes 0x102 7 (reading .start n live)) 0x102 both 7 (.watched 0x102)
      ∧ WriteGranted (writes 0x100 7 (reading .start n live)) 0x100 both 7 (.watched 0x100)
      ∧ WriteGranted (writes 0x100 7 (reading .reload n live)) 0x100 both 7 (.watched 0x100))
      ∧ 0x102 ∉ (reading .start 2 live).latch.wordsRead ∧ 0x100 ∈ (reading .start 2 live).latch.wordsRead
      ∧ (reading .start 2 live).latch.restarts < 3 ∧ 3 ≤ (reading .start 3 live).latch.restarts :=
  ⟨fun _ => ⟨⟨⟨rfl, rfl, rfl, Or.inr (Nat.succ_pos 3)⟩, rfl⟩, ⟨⟨rfl, rfl, rfl, Or.inr (Nat.succ_pos 3)⟩, rfl⟩,
    ⟨⟨rfl, rfl, rfl, Or.inr (Nat.succ_pos 3)⟩, rfl⟩⟩, by decide, by decide, by decide, by decide⟩

/-! ### Commands -/

/-- The command unit IDLE in RUNNING, with a sense slot. -/
def onPanel : State := running [gridSlot true 0] .gap 1 live

/-- A both-lane write of a code waits at the command cell. -/
theorem code_written (code : Word) (h : mergeLanes both code 0 = code) :
    CommandWritten (writes 0 code live) 0 both code code ∧ CommandWritten (writes 0 code onPanel) 0 both code code :=
  ⟨⟨writes_reach _ _ _ rfl, h⟩, ⟨⟨⟨rfl, rfl, rfl, Or.inl rfl⟩, rfl⟩, h⟩⟩

theorem panel_states : live.cmd.unit = .idle ∧ live.scan.state = .off ∧ onPanel.cmd.unit = .idle
    ∧ onPanel.scan.state = .running := by decide

theorem witness_StartAndReloadBeginLatch :
    (CommandWritten (writes 0 1 live) 0 both 1 1 ∧ CommandWritten (writes 0 1 onPanel) 0 both 1 1)
      ∧ CommandWritten (writes 0 4 live) 0 both 4 4 ∧ CommandWritten (writes 0 4 onPanel) 0 both 4 4 :=
  ⟨code_written 1 (by decide), code_written 4 (by decide)⟩

theorem witness_StopTurnsPanelOff :
    CommandWritten (writes 0 2 live) 0 both 2 2 ∧ CommandWritten (writes 0 2 onPanel) 0 both 2 2 :=
  code_written 2 (by decide)

/-- Arguments 511 and 512. -/
theorem witness_FlipPreparesNextFrame :
    (CommandWritten (writes 0 3 live) 0 both 3 3 ∧ CommandWritten (writes 0 3 onPanel) 0 both 3 3)
      ∧ (∀ arg, (onPanel.withCmd { onPanel.cmd with argCopy := arg }).cmd.unit = .idle)
      ∧ (511 : Word).toNat ≤ 511 ∧ 512 ≤ (512 : Word).toNat :=
  ⟨code_written 3 (by decide), fun _ => rfl, by decide, by decide⟩

theorem witness_FlushQueueEmptiesRing :
    CommandWritten (writes 0 5 live) 0 both 5 5
      ∧ (under (.write (.cell .consumer) 0 false) (busy 5 live)).arb.port = .write (.cell .consumer) 0 false
      ∧ (busy 5 live).cmd.unit = .busy ∧ (busy 5 live).cmd.taken = some 5 :=
  ⟨(code_written 5 (by decide)).1, rfl, rfl, rfl⟩

theorem witness_KeyResetClearsAndDrains :
    CommandWritten (writes 0 6 live) 0 both 6 6 ∧ (∀ x ∈ live.keys.table, x.down = false)
      ∧ live.keys.jammed = false :=
  ⟨(code_written 6 (by decide)).1, fun _ h => by rw [List.eq_of_mem_replicate h]; rfl, rfl⟩

/-- A drain at key `k` of a table with keys 9 and 11 DOWN, room or none, jammed or not. -/
def draining (p : KeyResetProgress) (jammed : Bool) (staged : List StagedEvent) : State :=
  (live.withKeys { live.keys with table := twoDown, reset := p, jammed := jammed }).withWs ⟨[], staged, 0⟩

/-- Four staged events: no room. -/
def fourStaged : List StagedEvent := List.replicate 4 ⟨⟨.press, 1, 0, 1⟩, 0, 0, 0⟩

/-- Keys 0 and 127 (UP), key 9 (DOWN), the end of the table, with room and without. -/
theorem witness_KeyResetDrainsInKeyOrder :
    ((draining (.draining 0) false []).keys.table[0]? = some Key.up
        ∧ (draining (.draining 127) false []).keys.table[127]? = some Key.up)
      ∧ (draining (.draining 9) false []).keys.table[9]? = some ⟨true, 0, false⟩
      ∧ canReserve (draining (.draining 9) true []) = true
      ∧ canReserve (draining (.draining 9) true fourStaged) = false
      ∧ (draining (.draining 128) true []).keys.reset = .draining 128
      ∧ (draining .clearingJam true []).keys.jammed = true ∧ (draining .clearingJam false []).keys.table.length = 128
      ∧ (under (.write (.record 0 3) 0 false) (draining (.draining 9) true fourStaged)).arb.port
          = .write (.record 0 3) 0 false :=
  ⟨⟨rfl, rfl⟩, rfl, rfl, rfl, rfl, rfl, rfl, rfl⟩

/-- The consumer write of a waiting drain's retry. -/
theorem witness_drain_consumer_write :
    WriteGranted (writes 0x01A 0 (draining (.draining 9) false fourStaged)) 0x01A both 0 .consumerCell
      ∧ mergeLanes both 0 (BitVec.ofNat 16 (draining (.draining 9) false fourStaged).queue.cons) = 0
      ∧ (0 + 16 - 0) % 16 ≤ queueCount (draining (.draining 9) false fourStaged).queue :=
  ⟨⟨⟨rfl, rfl, rfl, Or.inr (by decide)⟩, rfl⟩, by decide, by decide⟩

theorem witness_PanelResetResetsBlocks : CommandWritten (writes 0 7 onPanel) 0 both 7 7 :=
  (code_written 7 (by decide)).2

/-- A command runs, the latch in this progress. -/
def latching (c : Word) (p : LatchProgress) : State := (busy c live).withLatch ⟨p, .start, 0, [], [], []⟩

/-- ABORT in IDLE, against each running command and latch progress, and in COMPLETING. -/
theorem witness_AbortEndsRunningCommand :
    CommandWritten (writes 0 8 live) 0 both 8 8
      ∧ (∀ c p, CommandWritten (writes 0 8 (latching c p)) 0 both 8 8 ∧ (latching c p).cmd.unit = .busy
          ∧ (latching c p).cmd.taken = some c ∧ (latching c p).latch.progress = p)
      ∧ CommandWritten (writes 0 8 (live.withCmd { live.cmd with unit := .completing })) 0 both 8 8 :=
  ⟨(code_written 8 (by decide)).1,
    fun _ _ => ⟨⟨⟨⟨rfl, rfl, rfl, Or.inr (Nat.succ_pos 3)⟩, rfl⟩, show joinBytes (highByte 8) (lowByte 8) = 8 by decide⟩,
      rfl, rfl, rfl⟩,
    ⟨⟨⟨rfl, rfl, rfl, Or.inl rfl⟩, rfl⟩, by decide⟩⟩

/-- Resulting values 0 and 9 in IDLE, 3 and 8 in BUSY; the low-lane write of 0 in BUSY of 7.8, step 4, is zero. -/
theorem witness_UnknownAndRefusedCommandWrites :
    (CommandWritten (writes 0 0 live) 0 both 0 0 ∧ CommandWritten (writes 0 9 live) 0 both 9 9)
      ∧ resultingValue both 3 (writes 0 3 (busy 1 live)) = 3
      ∧ hostGrant (writes 0 3 (busy 1 live)) = some (.write 0 both 3)
      ∧ resultingValue low 0 (busy 3 live) = 0 ∧ isZeroWrite low 0 = true
      ∧ resultingValue both 8 (writes 0 8 (busy 1 live)) = 8
      ∧ hostGrant (writes 0 8 (busy 1 live)) = some (.write 0 both 8) :=
  ⟨⟨(code_written 0 (by decide)).1, (code_written 9 (by decide)).1⟩, by decide, by decide, by decide, by decide,
    by decide, by decide⟩

theorem witness_CompletionPlacesStatusThenClears :
    hasEntry .statusRecord live.ws.updates = false ∧ hasEntry .command live.ws.updates = false
      ∧ (under (.write (.cell .command) 0 false) live).arb.port = .write (.cell .command) 0 false
      ∧ (Result.done, (1 : Word)) ∈ [(Result.reset, 0), (.done, 1), (.refusedState, 2)] := by decide

/-! ### Events, the update list, the latch -/

/-- COLLISION pending, not pending with an entry waiting, not pending with none. -/
theorem witness_RaiseJoinsPendingSet :
    (live.withEvents ⟨8, 0, false⟩).events.pendingSet.getLsbD 3 = true
      ∧ live.events.pendingSet.getLsbD 3 = false ∧ (∀ e ∈ live.ws.updates, e.cell ≠ .pending)
      ∧ (∃ e ∈ (publish .pending live).ws.updates, e.cell = .pending) := by decide

theorem witness_PlacedUpdateKeepsOrder :
    ((complete 1 .done 0 (publish .pending live)).ws.updates.map Entry.cell).Nodup := by decide

/-- Words of the image and of each place in a record: the first and last offsets of the read order. -/
theorem witness_LatchReadPlacesWord :
    (∀ off ∈ [0x020, 0x036, 0x100, 0x1B8],
        (under (.latch off) (reading .start 0 live)).latch.progress = .reading ∧ (off < 0x100 ∨ off % 8 = 0))
      ∧ (under (.latch 0x102) (live.withLatch ⟨.reading, .reload, 0, [0x100], [], [⟨3, 0, 0, 0⟩]⟩)).latch.table
          = [] ++ [⟨3, 0, 0, 0⟩]
      ∧ (⟨3, 0, 0, 0⟩ : RawRecord).flags.getLsbD 1 = false ∧ live.latch.progress ≠ .reading := by decide

/-- The last read of a table of one record that carries the last mark. -/
theorem last_read (p : Purpose) (image : List Word) (r : RawRecord) (h : r.flags.getLsbD 1 = true) :
    LastRead (lastWord p image r live) 0x104
      ⟨.reading, p, 0, [0x104], image, [{ r with onTime := wordAt [] (0 + 0x104) }]⟩ :=
  ⟨rfl, rfl, by decide, rfl, [], r, rfl, Or.inl h, rfl⟩

/-- A gap of 0 fails the second check (022h); an on-time of 0, which empty memory holds, fails at 104h. -/
theorem witness_ConfigErrorNamesFirstFault :
    LastRead (lastWord .start (image12.set 1 0) ⟨3, 3, 0, 0⟩ live) 0x104
        ⟨.reading, .start, 0, [0x104], image12.set 1 0, [⟨3, 3, 0, 0⟩]⟩
      ∧ (image12.set 1 0).length = 12
      ∧ (∃ lo hi w, acceptedValues[0]? = some (lo, hi) ∧ (image12.set 1 0)[0]? = some w ∧ lo ≤ w.toNat
          ∧ w.toNat ≤ hi)
      ∧ acceptedValues[1]? = some (1, 15) ∧ (image12.set 1 0)[1]? = some 0
      ∧ recordFault [⟨3, 3, 0, 0⟩] 0 ⟨3, 3, 0, 0⟩ = some 0x104 :=
  ⟨last_read _ _ _ rfl, rfl, ⟨1, 255, 10, rfl, rfl, by decide, by decide⟩, rfl, rfl, by decide⟩


/-- Memory holds on-time 40 in record 0. -/
def onTime40 (s : State) : State := s.withMem [(0x104, 40)]

theorem image12_passes (k : Nat) (h : k < 12) : ConfigWordAccepted image12 k := by
  interval_cases k <;> exact ⟨_, _, _, rfl, rfl, by decide, by decide⟩

theorem one_record_passes (i : Nat) (r : RawRecord) (h : [(⟨3, 3, 0, 40⟩ : RawRecord)][i]? = some r) :
    recordFault [⟨3, 3, 0, 40⟩] i r = none := by
  match i, h with
  | 0, h => cases h; decide

/-- STARTING, the last read of an image with queue length 8 under way. -/
def lastStart : State := onTime40 (lastWord .start image12 ⟨3, 3, 0, 0⟩
  { live with scan := { live.scan with state := .starting } })

/-- Length 8 accepted at once (nothing staged), and waiting (four events staged). -/
theorem witness_StartLatchTakesForce :
    LastRead lastStart 0x104 ⟨.reading, .start, 0, [0x104], image12, [⟨3, 3, 0, 40⟩]⟩
      ∧ ConfigPasses ⟨.reading, .start, 0, [0x104], image12, [⟨3, 3, 0, 40⟩]⟩
      ∧ TablePasses [⟨3, 3, 0, 40⟩] ∧ image12[8]? = some 8 ∧ lastStart.scan.state = .starting
      ∧ lastStart.ws.staging = [] ∧ lastStart.queue.acceptance = none
      ∧ (8 : Word).toNat ≠ lastStart.queue.len ∧ (lastStart.withWs ⟨[], fourStaged, 0⟩).ws.staging ≠ [] :=
  ⟨⟨rfl, rfl, by decide, rfl, [], ⟨3, 3, 0, 0⟩, rfl, Or.inl rfl, rfl⟩, Or.inr ⟨rfl, image12_passes⟩,
    one_record_passes, rfl, rfl, rfl, rfl, by decide, nofun⟩

/-- HOLDING with length 8 waiting, the last record's fourth word under way. -/
def lastRecord : State :=
  under (.write (.record 0 3) 1 false)
    ((({ live with scan := { live.scan with state := .starting } }.withLatch
        ⟨.holding, .start, 0, [], image12, [⟨3, 3, 0, 40⟩]⟩).withQueue ⟨16, 0, 0, 0, some 8, false⟩).withWs
      ⟨[], [⟨⟨.press, 1, 0, 1⟩, 0, 0, 0⟩], 3⟩)

theorem witness_LengthAcceptedAtLastRecord :
    lastRecord.arb.port = .write (.record 0 3) 1 false ∧ lastRecord.ws.staging = [⟨⟨.press, 1, 0, 1⟩, 0, 0, 0⟩]
      ∧ lastRecord.latch.progress = .holding ∧ lastRecord.latch.purpose = .start
      ∧ lastRecord.latch.image = image12 ∧ image12[8]? = some 8 ∧ lastRecord.queue.acceptance = some (8 : Word).toNat
      ∧ (8 : Word).toNat ≠ lastRecord.queue.len ∧ lastRecord.scan.state = .starting
      ∧ lastRecord.keys.reset = .idle ∧ ConfigPasses lastRecord.latch :=
  ⟨rfl, rfl, rfl, rfl, rfl, rfl, rfl, by decide, rfl, rfl, Or.inr ⟨rfl, image12_passes⟩⟩

theorem witness_ReloadLatchPreparesTable :
    LastRead (onTime40 (lastWord .reload [] ⟨3, 3, 0, 0⟩ onPanel)) 0x104
        ⟨.reading, .reload, 0, [0x104], [], [⟨3, 3, 0, 40⟩]⟩
      ∧ TablePasses [⟨3, 3, 0, 40⟩] :=
  ⟨⟨rfl, rfl, by decide, rfl, [], ⟨3, 3, 0, 0⟩, rfl, Or.inl rfl, rfl⟩, one_record_passes⟩

/-! ### The frame cache -/

theorem witness_FillWordZeroPlacesSegments :
    (under (.fill 0 5 0 false) (withLine 0 (fillingLine 5 0 true) [⟨0, .demand⟩] live)).cache.lines[0]?
        = some (fillingLine 5 0 true)
      ∧ (under (.fill 0 5 1 true) live).arb.port = .fill 0 5 1 true := ⟨rfl, rfl⟩

/-- The line that a word 1 read makes VALID, on CURRENT or on NEXT, in this scan state and switch state. -/
def lastFill (current : Bool) (scan : ScanState) (switch : SwitchState) : State :=
  under (.fill 0 5 1 false)
    ((withLine 0 (fillingLine 5 1 current) [⟨0, .demand⟩]
      { live with scan := { live.scan with state := scan, table := [gridSlot false 5] } }).withSwitch
        ⟨switch, [gridSlot false 5], 0, 0, 1⟩)

/-- Neither frame becomes resident (OFF); the current frame in STARTING; the next frame in RUNNING. -/
theorem witness_FillWordOneMakesLineValid :
    (∀ c st sw, (lastFill c st sw).arb.port = .fill 0 5 1 false
        ∧ (lastFill c st sw).cache.lines[0]? = some (fillingLine 5 1 c) ∧ (lastFill c st sw).scan.state = st
        ∧ (lastFill c st sw).switch.state = sw ∧ (lastFill c st sw).scan.table ≠ [])
      ∧ (∀ y ∈ ((lastFill true .starting .none).cache.lines.set 0 (validLine 5 8)), y.current = true →
          y.state = .valid)
      ∧ (∀ y ∈ ((lastFill false .running .preparing).cache.lines.set 0
          { validLine 5 8 with current := false, next := true }), y.next = true → y.state = .valid) :=
  ⟨fun _ _ _ => ⟨rfl, rfl, rfl, rfl, nofun⟩, by decide, by decide⟩

/-- A state whose line 0 is `l` and whose other lines are EMPTY meets the cache's laws, when `l` does and the
list holds it exactly if it is FILLING. -/
theorem one_line_law (s : State) (l : Line) (fills : List FillEntry) (hs : s.cache.lines = List.replicate 64 Line.emptied)
    (hl : LineLaw l)
    (hf : (l.state ≠ .filling ∧ fills = []) ∨ (l.state = .filling ∧ ∃ c, fills = [⟨0, c⟩])) :
    CacheLaw (withLine 0 l fills s) := by
  have hset : (withLine 0 l fills s).cache.lines = l :: List.replicate 63 Line.emptied := by
    simp [withLine, State.withCache, hs, List.replicate_succ]
  have hfl : (withLine 0 l fills s).cache.fills = fills := rfl
  have he : ∀ x ∈ List.replicate 63 Line.emptied, x.state = .empty := fun x h => by
    rw [List.eq_of_mem_replicate h]; rfl
  refine ⟨by rw [hset]; rfl, ?_, ?_, ?_, ?_, ?_, ?_⟩
  · rw [hset]; intro x hx
    rcases List.mem_cons.1 hx with rfl | hx
    · exact hl
    · rw [List.eq_of_mem_replicate hx]; exact ⟨rfl, rfl, rfl, rfl⟩
  · rw [hset]
    exact List.pairwise_cons.2 ⟨fun y hy _ hn => absurd (he y hy) hn,
      List.pairwise_replicate.2 (Or.inr fun h => absurd rfl h)⟩
  · rw [hfl]; rcases hf with ⟨_, rfl⟩ | ⟨_, c, rfl⟩ <;> simp
  · rw [hfl, hset]; rcases hf with ⟨_, rfl⟩ | ⟨h, c, rfl⟩ <;> simp_all [isFilling]
  · rw [hfl, hset]; intro p hp hx
    rw [List.zipIdx_cons] at hp
    rcases List.mem_cons.1 hp with rfl | hp
    · rcases hf with ⟨h, _⟩ | ⟨_, c, rfl⟩
      · exact absurd hx h
      · simp
    · rw [he _ (List.fst_mem_of_mem_zipIdx hp)] at hx; cases hx
  · rw [hfl]; rcases hf with ⟨_, rfl⟩ | ⟨_, c, rfl⟩ <;> simp

/-- One FILLING line, on CURRENT or on NEXT. -/
def oneFilling (current : Bool) : State := withLine 0 (fillingLine 5 1 current) [⟨0, .demand⟩] onPanel

theorem oneFilling_law (current : Bool) : CacheLaw (oneFilling current) :=
  one_line_law onPanel _ _ rfl ⟨by cases current <;> decide, by cases current <;> rfl⟩ (Or.inr ⟨rfl, .demand, rfl⟩)

/-- One VALID line, on CURRENT. -/
def oneValid (idx : PatternIndex) (level : Byte) (s : State) : State := withLine 0 (validLine idx level) [] s

theorem oneValid_law (idx : PatternIndex) (level : Byte) (s : State)
    (h : s.cache.lines = List.replicate 64 Line.emptied) : CacheLaw (oneValid idx level s) :=
  one_line_law s _ _ h rfl (Or.inl ⟨nofun, rfl⟩)

theorem witness_PinRequestCoversSet :
    CacheLaw (oneFilling true) ∧ [(5 : PatternIndex), 6].Nodup
      ∧ (oneFilling true).cache.lines.countP (fun x => pinned x) + [(5 : PatternIndex), 6].length ≤ 64 :=
  ⟨oneFilling_law true, by decide, by decide⟩

/-- Index 5 is held, index 6 is not; line 1 is then the lowest EMPTY line. -/
theorem witness_PinRequest_empty :
    ([(5 : PatternIndex)] ++ [6]).Nodup
      ∧ (∃ x ∈ (oneFilling true).cache.lines, x.state ≠ .empty ∧ x.index = 5)
      ∧ (∀ x ∈ (oneFilling true).cache.lines, x.state ≠ .empty → x.index ≠ 6)
      ∧ ChosenLine (oneFilling true).cache.lines (oneFilling true).scan.frameCounter 1 :=
  ⟨by decide, ⟨_, List.mem_cons_self, nofun, rfl⟩, by decide, _, rfl, Or.inl ⟨rfl, fun m y hm hy => by
    obtain rfl : m = 0 := by omega
    cases hy; nofun⟩⟩

/-- With no EMPTY line, the oldest unpinned VALID line, the lowest number of two of equal age: line 1 of four, at
a frame counter that has wrapped. -/
theorem witness_PinRequest_oldest :
    ChosenLine [⟨.valid, 1, 2, 0, 0, true, false, 0xFFF0⟩, ⟨.valid, 2, 2, 0, 0, false, false, 0xFFFE⟩,
      ⟨.valid, 3, 2, 0, 0, false, false, 0xFFFE⟩, ⟨.valid, 4, 2, 0, 0, false, false, 1⟩] 2 1 :=
  ⟨_, rfl, Or.inr ⟨by decide, ⟨rfl, rfl, rfl⟩, fun m y hy hu => by
    match m, hy with
    | 0, hy => cases hy; cases hu.2.1
    | 1, hy => cases hy; exact Or.inr ⟨rfl, Nat.le_refl _⟩
    | 2, hy => cases hy; exact Or.inr ⟨rfl, by decide⟩
    | 3, hy => cases hy; exact Or.inl (by decide)⟩⟩

/-- A VALID line, a FILLING line that keeps a pin, and one that loses its only pin. -/
theorem witness_PinRemovalWithdraws :
    (CacheLaw (oneFilling true) ∧ (oneFilling true).cache.lines[0]? = some (fillingLine 5 1 true)
        ∧ (fillingLine 5 1 true).next = false ∧ (fillingLine 5 1 true).current = true)
      ∧ CacheLaw (oneValid 5 8 onPanel) ∧ (oneValid 5 8 onPanel).cache.lines[0]? = some (validLine 5 8) :=
  ⟨⟨oneFilling_law true, rfl, rfl, rfl⟩, oneValid_law _ _ _ rfl, rfl⟩

/-! ### The scan engine and the frame boundary -/

/-- A boundary just taken, slot 0 dark, resident or not; the last slot of a table of two may follow a gap. -/
theorem witness_SlotStartCapturesPattern :
    (CacheLaw (oneValid 5 8 (running [⟨none, false, 0, 40⟩] .boundaryTaken 0 live))
        ∧ (running [⟨none, false, 0, 40⟩] .boundaryTaken 0 live).scan.table[0]? = some ⟨none, false, 0, 40⟩)
      ∧ (∀ off, CacheLaw (oneValid 5 8 (running [gridSlot false off] .boundaryTaken 0 live))
        ∧ (running [gridSlot false off] .boundaryTaken 0 live).scan.table[0]? = some (gridSlot false off))
      ∧ validLine 5 8 ∈ (oneValid 5 8 (running [gridSlot false 5] .boundaryTaken 0 live)).cache.lines
      ∧ (validLine 5 8).index = (0 : PatternIndex) + 5
      ∧ (∀ x ∈ (oneValid 5 8 (running [gridSlot false 6] .boundaryTaken 0 live)).cache.lines, x.state = .valid →
          x.index ≠ (0 : PatternIndex) + 6) :=
  ⟨⟨oneValid_law _ _ _ rfl, rfl⟩, fun _ => ⟨oneValid_law _ _ _ rfl, rfl⟩, List.mem_cons_self, rfl, by decide⟩

/-- On-time with 40 and with 1 ticks remaining; a slot with a sense mark, one without; KEY_RESET at work. -/
theorem witness_OnTimeEndsInGap :
    (∀ m n, (running [gridSlot m 0] .onTime n live).scan.state = .running
        ∧ (running [gridSlot m 0] .onTime n live).scan.phase = .onTime
        ∧ (running [gridSlot m 0] .onTime n live).scan.table[0]? = some (gridSlot m 0)
        ∧ (running [gridSlot m 0] .onTime n live).scan.ticksRemaining = n)
      ∧ 40 ≤ (gridSlot true 0).onTime ∧ (gridSlot true 0).onTime - 40 < 21
      ∧ live.keys.reset = .idle ∧ (draining (.draining 9) false []).keys.reset ≠ .idle :=
  ⟨fun _ _ => ⟨rfl, rfl, rfl, rfl⟩, by decide, by decide, rfl, nofun⟩

/-- A boundary due, with a record NONE, READY, and PREPARING below its timeout and at it. -/
def boundary (sw : SwitchState) (timeout : Nat) : State :=
  (running [gridSlot false 0] .gap 1 live).withSwitch ⟨sw, [gridSlot false 5], 0, 0, timeout⟩

theorem witness_FrameBoundaryAdvancesAndSwitches :
    (∀ sw n, BoundaryDue (boundary sw n))
      ∧ ¬ SwitchDue (boundary .none 1) ∧ SwitchDue (boundary .ready 1) ∧ ¬ SwitchDue (boundary .preparing 2)
      ∧ SwitchDue (boundary .preparing 1) ∧ CacheLaw (oneValid 5 8 (boundary .ready 1)) :=
  ⟨fun _ _ => ⟨rfl, rfl, Nat.le_refl _⟩, (by rintro (h | ⟨h, _⟩) <;> cases h), Or.inl rfl,
    (by rintro (h | ⟨_, h⟩) <;> cases h), Or.inr ⟨rfl, rfl⟩, oneValid_law _ _ _ rfl⟩

/-- A boundary due, the key scanner in these conditions, key 9 DOWN; staged events full or none. -/
def keyBoundary (jammed : Bool) (tracked : Option Nat) (frames : Nat) (full : Bool) : State :=
  ((boundary .none 1).withKeys { live.keys with
    table := twoDown, jammed := jammed, repeatKey := tracked, framesToRepeat := frames }).withWs
    ⟨[], if full then fourStaged else [], 0⟩

theorem witness_KeyBoundaryRepeatsAndLeavesJam :
    (∀ j k n f, BoundaryDue (keyBoundary j k n f) ∧ (keyBoundary j k n f).keys.reset = .idle
        ∧ (keyBoundary j k n f).keys.jammed = j ∧ (keyBoundary j k n f).keys.refusalMark = false
        ∧ (keyBoundary j k n f).keys.repeatKey = k ∧ (keyBoundary j k n f).keys.framesToRepeat = n
        ∧ (keyBoundary j k n f).keys.table[9]? = some ⟨true, 0, false⟩)
      ∧ canReserve (keyBoundary true (some 9) 1 false) = true ∧ canReserve (keyBoundary true (some 9) 1 true) = false
      ∧ BoundaryDue ((boundary .none 1).withKeys { live.keys with reset := .draining 9 }) :=
  ⟨fun _ _ _ _ => ⟨⟨rfl, rfl, Nat.le_refl _⟩, rfl, rfl, rfl, rfl, rfl, rfl⟩, rfl, rfl, rfl, rfl, Nat.le_refl _⟩

/-- A jam exit and a repeat at one boundary: room for both; room for one, three events staged. -/
theorem witness_KeyBoundary_both :
    queueCount (keyBoundary true (some 9) 1 false).queue + 0 + 3 ≤ (keyBoundary true (some 9) 1 false).queue.len
      ∧ canReserve ((keyBoundary true (some 9) 1 false).withWs ⟨[], fourStaged.take 3, 0⟩) = true
      ∧ ((keyBoundary true (some 9) 1 false).withWs ⟨[], fourStaged.take 3, 0⟩).ws.staging.length = 3 :=
  ⟨by decide, rfl, rfl⟩

/-! ### Keys -/

/-- Keys 9 and 11 DOWN, key 13 in this condition; staged events full or none. -/
def keyed (x : Key) (full : Bool) : State :=
  (live.withKeys { live.keys with table := twoDown.set 13 x, debounce := 2 }).withWs
    ⟨[], if full then fourStaged else [], 0⟩

theorem witness_AgreeingKeyGivesUpChange :
    (keyed ⟨false, 1, true⟩ false).keys.table[13]? = some ⟨false, 1, true⟩ := rfl

/-- A first disagreement, the one that reaches the debounce scans, a held change; DOWN and UP, with room and
without; the down count below the rollover limit. -/
theorem witness_DisagreeingKeyCountsThenChanges :
    (∀ x f, (keyed x f).keys.table[13]? = some x ∧ (keyed x f).keys.debounce = 2)
      ∧ 1 ≤ 2 ∧ 0 + 1 < 2 ∧ 2 ≤ 1 + 1
      ∧ canReserve (keyed ⟨true, 1, false⟩ false) = true ∧ canReserve (keyed ⟨false, 1, true⟩ true) = false
      ∧ downCount (live.withKeys { live.keys with debounce := 2 }) < live.keys.rollover :=
  ⟨fun _ _ => ⟨rfl, rfl⟩, by decide, by decide, by decide, rfl, rfl, by decide⟩

/-- Two keys DOWN at rollover limit 2, a press of key 13 held, and one that comes to debounce 2. -/
theorem witness_RolloverRefusesPress :
    (keyed ⟨false, 2, true⟩ false).keys.table[13]? = some ⟨false, 2, true⟩
      ∧ (keyed ⟨false, 1, false⟩ false).keys.table[13]? = some ⟨false, 1, false⟩ ∧ 2 ≤ 1 + 1
      ∧ (keyed ⟨false, 1, false⟩ false).keys.rollover ≤ downCount (keyed ⟨false, 1, false⟩ false)
      ∧ (keyed ⟨false, 2, true⟩ false).keys.rollover ≤ downCount (keyed ⟨false, 2, true⟩ false)
      ∧ (keyed ⟨false, 2, true⟩ false).keys.jammed = false
      ∧ canReserve (keyed ⟨false, 2, true⟩ false) = true ∧ canReserve (keyed ⟨false, 2, true⟩ true) = false :=
  ⟨rfl, rfl, by decide, by decide, by decide, rfl, rfl, rfl⟩

theorem witness_ReservationStagesEvent :
    2 ≤ live.queue.len ∧ (reserve ⟨.press, 9, 0, 1⟩ live).isSome = true
      ∧ (reserve ⟨.press, 9, 0, 1⟩ (live.withWs ⟨[], fourStaged, 0⟩)).isSome = false := by decide

/-! ### The write stage -/

/-- A write of a replaced value; of a one-word cell, the consumer cell's with no flush; of the last word of the status record and the one before;
of a record's words 0 and 2. -/
theorem witness_WriteDoneMovesLists :
    (∀ w r, (under (.write w 7 r) live).arb.port = .write w 7 r)
      ∧ (∀ k, (live.withWs ⟨[⟨.statusRecord, .status ⟨1, 1, 1, 0⟩ k⟩, ⟨.command, .word 0⟩], [], 0⟩).ws.updates
          = ⟨.statusRecord, .status ⟨1, 1, 1, 0⟩ k⟩ :: [⟨.command, .word 0⟩])
      ∧ (∀ e ∈ [(⟨.command, .word 0⟩ : Entry)], e.cell ≠ .statusRecord)
      ∧ ¬ (live.cmd.unit = .busy ∧ live.cmd.taken = some 5) :=
  ⟨fun _ _ => rfl, fun _ => rfl, by decide, by decide⟩

/-- A record's fourth word, with no drain waiting and with one; the producer cell's write, with the announce mark and without. -/
theorem witness_RecordCompletionAdvancesProducer :
    (under (.write (.record 0 3) 7 false) (draining .idle false fourStaged)).ws.staging
        = ⟨⟨.press, 1, 0, 1⟩, 0, 0, 0⟩ :: List.replicate 3 ⟨⟨.press, 1, 0, 1⟩, 0, 0, 0⟩
      ∧ (under (.write (.record 0 3) 7 false) (draining .idle false fourStaged)).arb.port = .write (.record 0 3) 7 false
      ∧ (draining .idle false fourStaged).queue.acceptance = none ∧ (draining .idle false fourStaged).keys.reset = .idle
      ∧ (under (.write (.record 0 3) 7 false) (draining (.draining 9) false fourStaged)).keys.reset ≠ .idle
      ∧ (under (.write (.cell .producer) 1 false) live).arb.port = .write (.cell .producer) 1 false
      ∧ live.queue.announce = false ∧ (live.withQueue { live.queue with announce := true }).queue.announce = true :=
  ⟨rfl, rfl, rfl, rfl, nofun, rfl, rfl, rfl⟩

/-! ### Promotion -/

/-- A LATE switch is due, line 0 FILLING on NEXT with its word 0 read, its entry PREFETCH. -/
def lateSwitch : State := withLine 0 (fillingLine 5 1 false) [⟨0, .prefetch⟩] (boundary .preparing 1)

theorem witness_PromotedFillsStayDemand :
    CacheLaw lateSwitch ∧ BoundaryDue lateSwitch ∧ SwitchDue lateSwitch
      ∧ lateSwitch.cache.fills = [⟨0, .prefetch⟩]
      ∧ lateSwitch.cache.lines[0]? = some (fillingLine 5 1 false)
      ∧ CacheLaw (oneFilling true) ∧ (oneFilling true).cache.fills = [⟨0, .demand⟩]
      ∧ exec .litTicksEnd (oneFilling true) = .next (oneFilling true) :=
  ⟨one_line_law _ _ _ rfl ⟨by decide, rfl⟩ (Or.inr ⟨rfl, .prefetch, rfl⟩), ⟨rfl, rfl, Nat.le_refl _⟩,
    Or.inr ⟨rfl, rfl⟩, rfl, rfl, oneFilling_law true, rfl, rfl⟩

end Sys2Proof.Tests
end

/-! PROOFS of the scan engine's statements (O2, O4, O6, O26, O29, O30, O50, O51, O52). First the layer they share:
what the key scanner's operations leave as it was (`KeysOnly`, `DrainAsked`), what a row of the table can do
(`Happening`), and that a step is a chain of such happenings (`step_keeps`). -/

section
-- Proofs are elaborated one after another: in parallel their threads' stacks outgrow the checker's memory limit.
set_option Elab.async false

namespace Sys2Proof.Machine

/-! ## The key scanner's operations -/

/-- The configuration in force of two key scanners is the same (R59, R105). -/
structure SameConfig (a b : KeyScanner) : Prop where
  debounce : b.debounce = a.debounce
  repeatDelay : b.repeatDelay = a.repeatDelay
  repeatInterval : b.repeatInterval = a.repeatInterval
  rollover : b.rollover = a.rollover
  closedHigh : b.closedHigh = a.closedHigh

/-- `t` is `s` but for the key scanner's state, the event queue and the staged events: all that an observation
of keys, a jam, a repeat or a drain under way can change. -/
structure KeysOnly (s t : State) : Prop where
  pass : t.pass = s.pass
  arb : t.arb = s.arb
  updates : t.ws.updates = s.ws.updates
  recordProgress : t.ws.recordProgress = s.ws.recordProgress
  cmd : t.cmd = s.cmd
  latch : t.latch = s.latch
  scan : t.scan = s.scan
  cache : t.cache = s.cache
  switch : t.switch = s.switch
  events : t.events = s.events
  mem : t.mem = s.mem
  freeCount : t.freeCount = s.freeCount
  pending : t.pending = s.pending
  config : SameConfig s.keys t.keys

theorem SameConfig.refl (a : KeyScanner) : SameConfig a a := ⟨rfl, rfl, rfl, rfl, rfl⟩

theorem SameConfig.trans {a b c : KeyScanner} (h : SameConfig a b) (h' : SameConfig b c) : SameConfig a c :=
  ⟨h'.debounce.trans h.debounce, h'.repeatDelay.trans h.repeatDelay, h'.repeatInterval.trans h.repeatInterval,
    h'.rollover.trans h.rollover, h'.closedHigh.trans h.closedHigh⟩

namespace KeysOnly

theorem refl (s : State) : KeysOnly s s :=
  ⟨rfl, rfl, rfl, rfl, rfl, rfl, rfl, rfl, rfl, rfl, rfl, rfl, rfl, .refl _⟩

theorem trans {s t u : State} (h : KeysOnly s t) (h' : KeysOnly t u) : KeysOnly s u :=
  ⟨h'.pass.trans h.pass, h'.arb.trans h.arb, h'.updates.trans h.updates,
    h'.recordProgress.trans h.recordProgress, h'.cmd.trans h.cmd, h'.latch.trans h.latch, h'.scan.trans h.scan,
    h'.cache.trans h.cache, h'.switch.trans h.switch, h'.events.trans h.events, h'.mem.trans h.mem,
    h'.freeCount.trans h.freeCount, h'.pending.trans h.pending, h.config.trans h'.config⟩

/-- The key scanner replaced by one with the same configuration. -/
theorem withKeys {s : State} {x : KeyScanner}
    (h : SameConfig s.keys x := by exact ⟨rfl, rfl, rfl, rfl, rfl⟩) : KeysOnly s (s.withKeys x) :=
  ⟨rfl, rfl, rfl, rfl, rfl, rfl, rfl, rfl, rfl, rfl, rfl, rfl, rfl, h⟩

/-- The key scanner replaced by one with the same configuration, after other changes of the same kind. -/
theorem andKeys {s t : State} {x : KeyScanner} (h : KeysOnly s t)
    (hx : SameConfig t.keys x := by exact ⟨rfl, rfl, rfl, rfl, rfl⟩) : KeysOnly s (t.withKeys x) :=
  h.trans (withKeys hx)

theorem stage (e : KeyEvent) (s : State) : KeysOnly s (stage e s) :=
  ⟨rfl, rfl, rfl, rfl, rfl, rfl, rfl, rfl, rfl, rfl, rfl, rfl, rfl, .refl _⟩

theorem of_reserve {e : KeyEvent} {s t : State} (h : reserve e s = some t) : KeysOnly s t := by
  obtain ⟨-, rfl⟩ := (reserve_eq_some_iff e s t).1 h
  exact stage e s

theorem setKey (k : Nat) (x : Key) (s : State) : KeysOnly s (setKey k x s) :=
  withKeys

theorem hold (k : Nat) (s : State) : KeysOnly s (hold k s) := setKey _ _ s

theorem clearTracker (s : State) : KeysOnly s (clearTracker s) := withKeys

theorem acceptRelease (k : Nat) (s : State) : KeysOnly s (acceptRelease k s) := by
  unfold Machine.acceptRelease
  split
  · exact hold k s
  next s₁ hr =>
    have h₁ := (of_reserve hr).trans (setKey k Key.up s₁)
    dsimp only
    split
    · exact h₁.trans (clearTracker _)
    · exact h₁

theorem jamEntry (s : State) : KeysOnly s (jamEntry s) := by
  unfold Machine.jamEntry
  split
  · exact refl s
  · split
    · exact refl s
    next hr => exact (of_reserve hr).andKeys

theorem refuseRollover (k : Nat) (s : State) : KeysOnly s (refuseRollover k s) :=
  ((hold k s).andKeys).trans (jamEntry _)

theorem acceptPress (k : Nat) (s : State) : KeysOnly s (acceptPress k s) := by
  unfold Machine.acceptPress
  split
  · exact hold k s
  next s₁ hr =>
    have h₁ := (of_reserve hr).trans (setKey k ⟨true, 0, false⟩ s₁)
    dsimp only
    split
    · exact h₁.andKeys
    · exact h₁

theorem acceptChange (k : Nat) (s : State) : KeysOnly s (acceptChange k s) := by
  unfold Machine.acceptChange
  split
  · exact acceptRelease k s
  · split
    · exact refuseRollover k s
    · exact acceptPress k s

theorem disagree (k : Nat) (s : State) : KeysOnly s (disagree k s) := by
  unfold Machine.disagree
  split
  · exact acceptChange k s
  · dsimp only
    split
    · exact setKey _ _ s
    · exact (setKey _ _ s).trans (acceptChange k _)

theorem observeKey (k : Nat) (down : Bool) (s : State) : KeysOnly s (observeKey k down s) := by
  unfold Machine.observeKey
  split
  · exact setKey _ _ s
  · exact disagree k s

/-- A chain of changes of this kind along a list. -/
theorem foldl {α : Type} {f : State → α → State} (hf : ∀ t a, KeysOnly t (f t a)) (as : List α) (s : State) :
    KeysOnly s (as.foldl f s) := by
  induction as generalizing s with
  | nil => exact refl s
  | cons a as ih => exact (hf s a).trans (ih _)

theorem observe (grid : BitVec 4) (levels : BitVec 8) (s : State) : KeysOnly s (observe grid levels s) := by
  unfold Machine.observe
  split
  · exact foldl (fun t _ => observeKey _ _ t) _ s
  · exact refl s

theorem sampleSlot (levels : BitVec 8) (s : State) : KeysOnly s (sampleSlot levels s) := by
  unfold Machine.sampleSlot
  split
  · exact observe _ _ s
  · exact refl s

theorem jamExit (s : State) : KeysOnly s (jamExit s) := by
  unfold Machine.jamExit
  split
  · split
    · exact refl s
    next hr => exact (of_reserve hr).andKeys
  · exact refl s

theorem repeatEvent (k : Nat) (s : State) : KeysOnly s (repeatEvent k s) := by
  unfold Machine.repeatEvent
  dsimp only
  split
  · exact withKeys
  next hr => exact ((of_reserve hr).andKeys).andKeys

theorem repeatStep (s : State) : KeysOnly s (repeatStep s) := by
  unfold Machine.repeatStep
  split
  · exact refl s
  · split
    · split
      · exact repeatEvent _ s
      · exact withKeys
    · exact refl s

theorem keyBoundary (s : State) : KeysOnly s (keyBoundary s) := by
  unfold Machine.keyBoundary
  split
  · exact ((jamExit s).trans (repeatStep _)).andKeys
  · exact refl s

theorem abortDrain (s : State) : KeysOnly s (abortDrain s) := withKeys

end KeysOnly

/-- What asking a drain can leave (R75, R76): the drain waits, or it has reached its end and KEY_RESET has
completed. -/
inductive DrainAsked (s : State) : State → Prop
  | waits {t : State} (h : KeysOnly s t) : DrainAsked s t
  | finished {t : State} (n : Word) (h : KeysOnly s t) : DrainAsked s (completeTaken .done n t)

theorem DrainAsked.of_keysOnly {s t u : State} (h : KeysOnly s t) (h' : DrainAsked t u) : DrainAsked s u := by
  cases h' with
  | waits hu => exact .waits (h.trans hu)
  | finished n hu => exact .finished n (h.trans hu)

theorem finishKeyReset_asked (s : State) : DrainAsked s (finishKeyReset s) :=
  .finished _ KeysOnly.withKeys

theorem drainJam_asked (s : State) : DrainAsked s (drainJam s) := by
  unfold drainJam
  split
  · split
    · exact .waits .withKeys
    next hr =>
      exact (finishKeyReset_asked _).of_keysOnly ((KeysOnly.of_reserve hr).andKeys)
  · exact finishKeyReset_asked s

theorem drainFrom_asked (n k : Nat) (s : State) : DrainAsked s (drainFrom n k s) := by
  induction n generalizing k s with
  | zero => exact drainJam_asked s
  | succ n ih =>
    unfold drainFrom
    split
    · split
      · exact .waits .withKeys
      next s₁ hr =>
        exact (ih _ _).of_keysOnly
          (((KeysOnly.of_reserve hr).trans (.setKey k _ s₁)).andKeys)
    · exact ih _ _

theorem askDrain_asked (s : State) : DrainAsked s (askDrain s) := by
  unfold askDrain
  split
  · exact .waits (.refl s)
  · exact drainFrom_asked _ _ s
  · exact drainJam_asked s

theorem beginKeyReset_asked (s : State) : DrainAsked s (beginKeyReset s) :=
  (askDrain_asked _).of_keysOnly .withKeys

/-! ## What a row of the table can do -/

/-- What a row of the table can make of a state, with the condition under which it comes about: the one
inversion of `exec` from which each law's preservation follows. -/
inductive Happening (s : State) : State → Prop
  | nothing : Happening s s
  | resetAsserted (h : s.pass.resetHeld = false) : Happening s (lineReset (makeWaiting (endPartCycle s)))
  | resetReleased (straps : BitVec 4) (h : s.pass.resetHeld = true) :
      Happening s (initialPublication (s.withPass { s.pass with
        resetHeld := false, straps := straps, windowBase := straps.toNat * Config.strapStep }))
  | presented (c : HostCycle) (h : c.addr < Config.hostSpace) : Happening s (presentCycle c s)
  | hostCycle (c : HostCycle) (h : HostGranted s c) : Happening s (takeCycle c (grantHost s))
  | partGranted (p : PartClass) (h : canDecide s = true) (hp : firstPart s = some p) :
      Happening s (grantPart p s)
  | latchRead (off : Nat) (h : s.arb.port = .latch off) : Happening s (endLatchRead off s)
  | writeDone (t : WriteTarget) (d : Word) (r : Bool) (h : s.arb.port = .write t d r) :
      Happening s (endWrite t d r s)
  | lengthSettled : Happening s (settleLength s)
  | word0Read (n : Nat) (idx : PatternIndex) (h : s.arb.port = .fill n idx 0 false) :
      Happening s (readWord0 n idx s)
  | word1Read (n : Nat) (idx : PatternIndex) (h : s.arb.port = .fill n idx 1 false) :
      Happening s (readWord1 n idx s)
  | readDiscarded (n : Nat) (idx : PatternIndex) (w : Nat) (h : s.arb.port = .fill n idx w true) :
      Happening s (s.withArb { s.arb with port := .free })
  | currentReported : Happening s (reportCurrent s)
  | nextReported : Happening s (reportNext s)
  | slotStarted (i : Nat) (h : s.scan.state = .running) (hi : nextSlot s = some i) : Happening s (startSlot i s)
  | litEnded (h : s.scan.state = .running) (hp : s.scan.phase = .onTime) : Happening s (endLit s)
  | onTimeEnded (sense : BitVec 8) (h : s.scan.state = .running) (hp : s.scan.phase = .onTime) :
      Happening s (endOnTime sense s)
  | boundary (h : boundaryDue s = true) : Happening s (takeBoundary s)
  | drainAsked (h : s.keys.reset ≠ .idle) : Happening s (askDrain s)

/-- A row that takes one kind of host write takes a granted one or does nothing. -/
theorem Happening.of_takeRow (kind : Nat → Lanes → Word → State → Bool) (s : State) :
    Happening s (takeRow kind s) := by
  unfold takeRow
  split
  next a l d hg =>
    split
    · exact .hostCycle (.write a l d) ((hostGrant_eq_some_iff s _).1 hg)
    · exact .nothing
  · exact .nothing

/-- A decision of the arbiter grants the host, a part class, or nobody. -/
theorem Happening.of_decidePort (s : State) : Happening s (decidePort s) := by
  unfold decidePort
  split
  next c hg => exact .hostCycle c ((hostGrant_eq_some_iff s _).1 hg)
  · split
    next hc =>
      split
      next p hp => exact .partGranted p hc hp
      · exact .nothing
    · exact .nothing

/-- What a row answers is one of the happenings. -/
theorem Happening.of_exec {c : Instr} {s t : State} (h : exec c s = .next t) : Happening s t := by
  cases c
  case resetAsserted =>
    simp only [exec, execResetAsserted] at h
    split at h <;> cases h
    · exact .nothing
    · exact .resetAsserted (Bool.eq_false_iff.2 ‹_›)
  case resetReleased straps =>
    simp only [exec, execResetReleased] at h
    split at h <;> cases h
    · exact .resetReleased straps ‹_›
    · exact .nothing
  case hostCyclePresented c =>
    simp only [exec, execHostCyclePresented] at h
    split at h <;> cases h
    exact .presented c ‹_›
  case arbiterDecision => cases h; exact .of_decidePort s
  case hostWrite | publishedCellWrite | start | stop | flip | reload | flushQueue | keyReset | panelReset | abort
    | unknownCommand | argumentWrite | pendingCellWrite | enableCellWrite | consumerCellWrite | globalLevelWrite
    | patternWrite | tableWrite | commandCellWrite =>
    cases h; exact .of_takeRow _ s
  case latchReadComplete =>
    simp only [exec, execLatchReadComplete] at h
    split at h <;> cases h
    · exact .latchRead _ ‹_›
    all_goals exact .nothing
  case lengthAccepted =>
    simp only [exec, execLengthAccepted] at h
    split at h
    · cases h; exact .nothing
    · split at h
      · split at h <;> cases h
        · exact .writeDone _ _ _ ‹_›
        · exact .nothing
      · cases h; exact .lengthSettled
  case fillWord0Read =>
    simp only [exec, execFillWord0Read] at h
    split at h <;> cases h
    · exact .word0Read _ _ ‹_›
    · exact .nothing
  case fillWord1Read =>
    simp only [exec, execFillWord1Read] at h
    split at h <;> cases h
    · exact .word1Read _ _ ‹_›
    · exact .nothing
  case fillReadDiscarded =>
    simp only [exec, execFillReadDiscarded] at h
    split at h <;> cases h
    · exact .readDiscarded _ _ _ ‹_›
    · exact .nothing
  case runningBegins =>
    simp only [exec, execRunningBegins] at h
    split at h
    · split at h <;> cases h
      · exact .word1Read _ _ ‹_›
      · exact .currentReported
    · cases h; exact .currentReported
  case nextFrameReady =>
    simp only [exec, execNextFrameReady] at h
    split at h
    · split at h <;> cases h
      · exact .word1Read _ _ ‹_›
      · exact .nextReported
    · cases h; exact .nextReported
  case slotStart =>
    simp only [exec, execSlotStart] at h
    split at h <;> cases h
    · exact .slotStarted _ ‹_› ‹_›
    · exact .nothing
  case litTicksEnd =>
    simp only [exec, execLitTicksEnd] at h
    split at h <;> cases h
    next hd => exact .litEnded hd.1 hd.2.1
    · exact .nothing
  case onTimeEnd sense =>
    simp only [exec, execOnTimeEnd] at h
    split at h <;> cases h
    next hd => exact .onTimeEnded sense hd.1 hd.2
    · exact .nothing
  case frameBoundary =>
    simp only [exec, execFrameBoundary] at h
    split at h <;> cases h
    · exact .boundary ‹_›
    · exact .nothing
  case switchTimeout =>
    simp only [exec, execSwitchTimeout, Bool.and_eq_true] at h
    split at h <;> cases h
    next hd => exact .boundary hd.1
    · exact .nothing
  case repeatDue =>
    simp only [exec, execRepeat, Bool.and_eq_true] at h
    split at h <;> cases h
    next hd => exact .boundary hd.1
    · exact .nothing
  case writeStageWriteDone =>
    simp only [exec, execWriteStageWriteDone] at h
    split at h <;> cases h
    · exact .writeDone _ _ _ ‹_›
    all_goals exact .nothing
  case recordComplete =>
    simp only [exec, execRecordComplete] at h
    split at h <;> cases h
    · exact .writeDone _ _ _ ‹_›
    · exact .nothing
  case queueData =>
    simp only [exec, execQueueData] at h
    split at h
    · split at h <;> cases h
      · exact .writeDone _ _ _ ‹_›
      · exact .nothing
    · cases h; exact .nothing
  case completingEnds =>
    simp only [exec, execCompletingEnds] at h
    split at h <;> cases h
    · exact .writeDone _ _ _ ‹_›
    · exact .nothing
  case flushQueueDone =>
    simp only [exec, execFlushQueueDone] at h
    split at h
    · split at h <;> cases h
      · exact .writeDone _ _ _ ‹_›
      · exact .nothing
    · cases h; exact .nothing
  case drainRetry =>
    simp only [exec, execDrainRetry] at h
    split at h
    · cases h; exact .nothing
    next hr =>
      split at h
      · cases h; exact .drainAsked hr
      · split at h <;> cases h
        · exact .writeDone _ _ _ ‹_›
        · exact .of_takeRow _ s

/-! ## The scan engine: starting slots, frame boundaries, ticks -/

/-- What a slot start does to the scan engine: nothing where the table has no such slot; otherwise the slot's
values, a dark slot's with no captured pattern (R8, R12). -/
theorem scan_startSlot_cases (i : Nat) (s : State) :
    (startSlot i s).scan = s.scan ∨
      ∃ r cap, s.scan.table[i]? = some r ∧ (r.grid = none → cap = none)
        ∧ (startSlot i s).scan = slotEngine s.scan i r cap := by
  unfold startSlot
  split
  · exact .inl rfl
  next r hr =>
    right
    split
    · exact ⟨r, none, hr, fun _ => rfl, rfl⟩
    next g hg =>
      have hdark : ∀ cap : Option Captured, r.grid = none → cap = none := fun _ hn => by simp [hg] at hn
      split
      · exact ⟨r, none, hr, hdark _, by simp⟩
      · exact ⟨r, some _, hr, hdark _, rfl⟩

@[simp] theorem scanState_startSlot (i : Nat) (s : State) : (startSlot i s).scan.state = s.scan.state := by
  obtain h | ⟨r, cap, -, -, h⟩ := scan_startSlot_cases i s <;> simp [h, slotEngine]

/-- The scan engine as the end of an on-time leaves it: lines off, in the gap, the sampled levels held (R7, R13). -/
def gapEngine (levels : BitVec 8) (e : ScanEngine) : ScanEngine :=
  { e with
    phase := .gap, ticksRemaining := e.gapTicks, gridLines := 0, segLines := 0, senseLines := levels }

/-- The end of an on-time: the lines turn off, then the slot is sampled (R13, R15). -/
theorem endOnTime_eq (levels : BitVec 8) (s : State) :
    endOnTime levels s = sampleSlot levels (s.withScan (gapEngine levels s.scan)) := rfl

theorem scan_endOnTime (levels : BitVec 8) (s : State) :
    (endOnTime levels s).scan = gapEngine levels s.scan :=
  (KeysOnly.sampleSlot levels _).scan

/-- The scan engine at a switch: the next table and base are in force (R50). -/
@[simp] theorem scan_switchFrames (r : Result) (n : Nat) (s : State) :
    (switchFrames r n s).scan = { s.scan with table := s.switch.nextTable, frameBase := s.switch.nextBase } := by
  unfold switchFrames
  dsimp only
  split <;> simp

/-! ### The frame switch at a boundary -/

@[simp] theorem switchFrames_pass (r : Result) (n : Nat) (s : State) : (switchFrames r n s).pass = s.pass := by
  unfold switchFrames; split <;> simp
@[simp] theorem switchFrames_latch (r : Result) (n : Nat) (s : State) : (switchFrames r n s).latch = s.latch := by
  unfold switchFrames; split <;> simp
@[simp] theorem switchFrames_keys (r : Result) (n : Nat) (s : State) : (switchFrames r n s).keys = s.keys := by
  unfold switchFrames; split <;> simp
@[simp] theorem switchFrames_queue (r : Result) (n : Nat) (s : State) : (switchFrames r n s).queue = s.queue := by
  unfold switchFrames; split <;> simp
@[simp] theorem switchFrames_events (r : Result) (n : Nat) (s : State) : (switchFrames r n s).events = s.events := by
  unfold switchFrames; split <;> simp
@[simp] theorem switchFrames_mem (r : Result) (n : Nat) (s : State) : (switchFrames r n s).mem = s.mem := by
  unfold switchFrames; split <;> simp
@[simp] theorem switchFrames_freeCount (r : Result) (n : Nat) (s : State) :
    (switchFrames r n s).freeCount = s.freeCount := by
  unfold switchFrames; split <;> simp
@[simp] theorem switchFrames_pending (r : Result) (n : Nat) (s : State) : (switchFrames r n s).pending = s.pending := by
  unfold switchFrames; split <;> simp

/-- A READY frame and a preparation at its timeout are switched to (R49, R51, R52). -/
theorem switchBoundary_of_due {s : State} (h : SwitchDue s) :
    switchBoundary s = switchFrames (if s.switch.state = .ready then .done else .late)
      (s.switch.framesWaited + 1) s := by
  obtain hready | ⟨hprep, htime⟩ := h
  · simp [switchBoundary, hready]
  · simp [switchBoundary, hprep, htime]

/-- Short of a switch the frame switch counts at most one more frame waited (R49). -/
theorem switchBoundary_of_not_due {s : State} (h : ¬ SwitchDue s) :
    switchBoundary s = s.withSwitch { s.switch with
      framesWaited :=
        if s.switch.state = .preparing then s.switch.framesWaited + 1 else s.switch.framesWaited } := by
  obtain ⟨hready, htime⟩ := not_or.1 h
  unfold switchBoundary
  split
  next hst =>
    rw [if_neg (by simp [hst])]
    rfl
  next hst => rw [if_neg fun heq => htime ⟨hst, heq⟩, if_pos hst]
  next hst => exact absurd hst hready

/-- The frame switch's boundary action is a switch, or sets the frames waited (R49). -/
theorem switchBoundary_cases (s : State) :
    (∃ n, switchBoundary s = s.withSwitch { s.switch with framesWaited := n })
      ∨ ∃ r, switchBoundary s = switchFrames r (s.switch.framesWaited + 1) s := by
  by_cases h : SwitchDue s
  · exact .inr ⟨_, switchBoundary_of_due h⟩
  · exact .inl ⟨_, switchBoundary_of_not_due h⟩

@[simp] theorem switchBoundary_pass (s : State) : (switchBoundary s).pass = s.pass := by
  obtain ⟨n, h⟩ | ⟨r, h⟩ := switchBoundary_cases s <;> simp [h]
@[simp] theorem switchBoundary_latch (s : State) : (switchBoundary s).latch = s.latch := by
  obtain ⟨n, h⟩ | ⟨r, h⟩ := switchBoundary_cases s <;> simp [h]
@[simp] theorem switchBoundary_keys (s : State) : (switchBoundary s).keys = s.keys := by
  obtain ⟨n, h⟩ | ⟨r, h⟩ := switchBoundary_cases s <;> simp [h]
@[simp] theorem switchBoundary_queue (s : State) : (switchBoundary s).queue = s.queue := by
  obtain ⟨n, h⟩ | ⟨r, h⟩ := switchBoundary_cases s <;> simp [h]
@[simp] theorem switchBoundary_events (s : State) : (switchBoundary s).events = s.events := by
  obtain ⟨n, h⟩ | ⟨r, h⟩ := switchBoundary_cases s <;> simp [h]
@[simp] theorem switchBoundary_mem (s : State) : (switchBoundary s).mem = s.mem := by
  obtain ⟨n, h⟩ | ⟨r, h⟩ := switchBoundary_cases s <;> simp [h]
@[simp] theorem switchBoundary_freeCount (s : State) : (switchBoundary s).freeCount = s.freeCount := by
  obtain ⟨n, h⟩ | ⟨r, h⟩ := switchBoundary_cases s <;> simp [h]
@[simp] theorem switchBoundary_pending (s : State) : (switchBoundary s).pending = s.pending := by
  obtain ⟨n, h⟩ | ⟨r, h⟩ := switchBoundary_cases s <;> simp [h]

/-- The frame switch's boundary action moves at most the table and the frame base of the scan engine. -/
theorem scan_switchBoundary_cases (s : State) :
    (switchBoundary s).scan = s.scan
      ∨ (switchBoundary s).scan = { s.scan with
          table := s.switch.nextTable, frameBase := s.switch.nextBase } := by
  obtain ⟨n, h⟩ | ⟨r, h⟩ := switchBoundary_cases s <;> rw [h]
  · exact .inl rfl
  · exact .inr (scan_switchFrames r _ s)

/-- The scan engine as a frame boundary's own actions leave it, before the frame switch acts (R16). -/
def boundaryEngine (e : ScanEngine) : ScanEngine :=
  { e with
    frameCounter := e.frameCounter + 1, globalLevel := e.pendingLevel, slotIndex := 0,
    phase := .boundaryTaken, ticksRemaining := 0 }

/-- The state in which the frame switch takes its boundary action: the counter advanced, the pending level in
force, the CURRENT lines aged (R16, R41). -/
def atBoundary (s : State) : State := ageLines (s.withScan (boundaryEngine s.scan))

/-- A frame boundary, its actions in their order (R16). -/
theorem takeBoundary_eq (s : State) : takeBoundary s = keyBoundary (switchBoundary (atBoundary s)) := rfl

/-- What a frame boundary does to the scan engine (R16, R50). -/
theorem scan_takeBoundary_cases (s : State) :
    (takeBoundary s).scan = boundaryEngine s.scan
      ∨ (takeBoundary s).scan = { boundaryEngine s.scan with
          table := s.switch.nextTable, frameBase := s.switch.nextBase } := by
  rw [takeBoundary_eq, (KeysOnly.keyBoundary _).scan]
  exact scan_switchBoundary_cases (atBoundary s)

@[simp] theorem scanState_takeBoundary (s : State) : (takeBoundary s).scan.state = s.scan.state := by
  obtain h | h := scan_takeBoundary_cases s <;> simp [h, boundaryEngine]

@[simp] theorem phase_takeBoundary (s : State) : (takeBoundary s).scan.phase = .boundaryTaken := by
  obtain h | h := scan_takeBoundary_cases s <;> simp [h, boundaryEngine]

/-- Slot 0 is next once a boundary has been taken (R7). -/
theorem nextSlot_of_boundaryTaken {s : State} (h : s.scan.phase = .boundaryTaken) : nextSlot s = some 0 := by
  simp [nextSlot, h]

/-- The boundary is due exactly in the gap of the last slot in RUNNING (R7, R16). -/
theorem boundaryDue_iff (s : State) : boundaryDue s = true ↔ BoundaryDue s := by
  simp only [boundaryDue, BoundaryDue, decide_eq_true_eq]
  refine and_congr_right fun _ => and_congr_right fun hp => ?_
  simp only [nextSlot, hp]
  split <;> simp <;> omega

/-! ### A tick is a chain of happenings -/

/-- One tick counted down: `n` ticks remain, and the segment lines turn off if the lit ticks have passed (R11). -/
def tickCounted (n : Nat) (dark : Bool) (s : State) : State :=
  s.withScan { s.scan with ticksRemaining := n, segLines := if dark then 0 else s.scan.segLines }

/-- A happening of a row, or a tick counted down in RUNNING. -/
inductive Moment (s : State) : State → Prop
  | row {t : State} (h : Happening s t) : Moment s t
  | tick (n : Nat) (dark : Bool) (h : s.scan.state = .running) : Moment s (tickCounted n dark s)

/-- What is left of a moment in RUNNING is a chain of happenings. -/
theorem settleMoment_moments {s : State} (h : s.scan.state = .running) :
    Relation.ReflTransGen Moment s (settleMoment s) ∧ (settleMoment s).scan.state = .running := by
  have start : Relation.ReflTransGen Moment s (if s.scan.phase = .boundaryTaken then startSlot 0 s else s)
      ∧ (if s.scan.phase = .boundaryTaken then startSlot 0 s else s).scan.state = .running := by
    split
    next hp => exact ⟨.single (.row (.slotStarted 0 h (nextSlot_of_boundaryTaken hp))), by simpa using h⟩
    · exact ⟨.refl, h⟩
  unfold settleMoment
  generalize (if s.scan.phase = .boundaryTaken then startSlot 0 s else s) = s₁ at start ⊢
  obtain ⟨chain, hrun⟩ := start
  dsimp only
  split
  next hp => exact ⟨chain.tail (.row (.onTimeEnded _ hrun hp.1)), by simpa [scan_endOnTime, gapEngine] using hrun⟩
  · exact ⟨chain, hrun⟩

/-- The passing of a tick in RUNNING is a chain of happenings and of a tick counted down. -/
theorem passTick_moments {s : State} (h : s.scan.state = .running) :
    Relation.ReflTransGen Moment s (passTick s) := by
  unfold passTick
  split
  · exact .refl
  next hp =>
    split
    · exact .single (.row (.onTimeEnded _ h hp))
    · simpa [tickCounted] using Relation.ReflTransGen.single (Moment.tick (s.scan.ticksRemaining - 1)
        (decide (s.scan.litTicks ≤ currentOnTime s - (s.scan.ticksRemaining - 1))) h)
  next hp =>
    split
    · split
      next i hi => exact .single (.row (.slotStarted i h hi))
      next hi =>
        refine (Relation.ReflTransGen.single (.row (.boundary ?_))).tail
          (.row (.slotStarted 0 (by simpa using h) (nextSlot_of_boundaryTaken (phase_takeBoundary s))))
        simp [boundaryDue, h, hp, hi]
    · exact .single (.tick (s.scan.ticksRemaining - 1) false h)

/-- One scan tick is a chain of happenings and of ticks counted down. -/
theorem scanTick_moments (s : State) : Relation.ReflTransGen Moment s (scanTick s) := by
  unfold scanTick
  split
  next h =>
    obtain ⟨chain, hrun⟩ := settleMoment_moments h
    exact chain.trans (passTick_moments hrun)
  · exact .refl

/-- A law that does not look at the queue of commands, that every happening keeps and every tick counted down
keeps, is kept by every step. -/
theorem step_keeps {P : State → Prop} (hqueue : ∀ s q, P s → P (s.withPending q))
    (hrow : ∀ s t, P s → Happening s t → P t)
    (htick : ∀ s n dark, s.scan.state = .running → P s → P (tickCounted n dark s))
    {s t : State} (h : P s) (hst : step s = .next t) : P t := by
  unfold step at hst
  split at hst
  · cases hst
    have chain := scanTick_moments s
    generalize scanTick s = u at chain ⊢
    induction chain with
    | refl => exact h
    | tail _ hm ih =>
      cases hm with
      | row hh => exact hrow _ _ ih hh
      | tick n dark hr => exact htick _ n dark hr ih
  next c q hq => exact hrow _ _ (hqueue _ _ h) (.of_exec hst)

/-! ## The laws of the lines -/

/-! ### The three parts of the law -/

/-- INT follows the two sets (R132). -/
def IntFollows (e : EventUnit) : Prop := e.intLine = intOf e.pendingSet e.enableSet

/-- WAIT follows the presented cycle, and none waits while RESET is held (R145, R148). -/
def WaitFollows (p : PassThrough) : Prop :=
  p.waitLine = p.waiting.isSome ∧ (p.resetHeld = true → p.waiting = none)

/-- The grid and segment lines are safe (R11, R13, R14). -/
def PanelSafe (e : ScanEngine) : Prop :=
  ((e.state ≠ .running ∨ e.phase ≠ .onTime) → e.gridLines = 0 ∧ e.segLines = 0)
  ∧ (e.gridLines = 0 ∨ ∃ g : BitVec 4, e.gridLines = gridLine g)
  ∧ (e.segLines ≠ 0 → e.gridLines ≠ 0)

theorem linesSafe_iff (s : State) :
    LinesSafe s ↔ IntFollows s.events ∧ WaitFollows s.pass ∧ PanelSafe s.scan := by
  simp only [LinesSafe, IntFollows, WaitFollows, PanelSafe, and_assoc]

theorem LinesSafe.withScan {s : State} {x : ScanEngine} (h : LinesSafe s) (hx : PanelSafe x) :
    LinesSafe (s.withScan x) := by
  obtain ⟨hint, hwait, -⟩ := (linesSafe_iff s).1 h
  exact (linesSafe_iff _).2 ⟨hint, hwait, hx⟩

theorem LinesSafe.withEvents {s : State} {x : EventUnit} (h : LinesSafe s) (hx : IntFollows x) :
    LinesSafe (s.withEvents x) := by
  obtain ⟨-, hwait, hpanel⟩ := (linesSafe_iff s).1 h
  exact (linesSafe_iff _).2 ⟨hx, hwait, hpanel⟩

theorem LinesSafe.withPass {s : State} {x : PassThrough} (h : LinesSafe s) (hx : WaitFollows x) :
    LinesSafe (s.withPass x) := by
  obtain ⟨hint, -, hpanel⟩ := (linesSafe_iff s).1 h
  exact (linesSafe_iff _).2 ⟨hint, hx, hpanel⟩

theorem LinesSafe.panel {s : State} (h : LinesSafe s) : PanelSafe s.scan := ((linesSafe_iff s).1 h).2.2

theorem LinesSafe.wait {s : State} (h : LinesSafe s) : WaitFollows s.pass := ((linesSafe_iff s).1 h).2.1

/-- All lines off is safe in any state of the engine. -/
theorem PanelSafe.of_dark {e : ScanEngine} (hg : e.gridLines = 0) (hs : e.segLines = 0) : PanelSafe e :=
  ⟨fun _ => ⟨hg, hs⟩, .inl hg, fun h => absurd hs h⟩

/-- Outside an on-time of RUNNING the engine stays safe in any state and phase that leaves the lines off. -/
theorem PanelSafe.of_off {e x : ScanEngine} (h : PanelSafe e) (hoff : e.state ≠ .running ∨ e.phase ≠ .onTime)
    (hg : x.gridLines = e.gridLines) (hs : x.segLines = e.segLines) : PanelSafe x :=
  .of_dark (hg.trans (h.1 hoff).1) (hs.trans (h.1 hoff).2)

/-- Turning the segment lines off, or leaving them, is safe while the grid and the phase stay. -/
theorem PanelSafe.segmentsOff {e x : ScanEngine} (h : PanelSafe e) (hst : x.state = e.state)
    (hp : x.phase = e.phase) (hg : x.gridLines = e.gridLines) (hs : x.segLines = 0 ∨ x.segLines = e.segLines) :
    PanelSafe x := by
  obtain ⟨hoff, hgrid, hseg⟩ := h
  rw [PanelSafe, hst, hp, hg]
  obtain hs | hs := hs <;> rw [hs]
  · exact ⟨fun h => ⟨(hoff h).1, rfl⟩, hgrid, fun h => absurd rfl h⟩
  · exact ⟨hoff, hgrid, hseg⟩

theorem intFollows_withPendingSet (e : EventUnit) (p : BitVec 5) : IntFollows (withPendingSet e p) := rfl

theorem intFollows_withEnableSet (e : EventUnit) (n : BitVec 5) : IntFollows (withEnableSet e n) := rfl

/-- One grid driven is a line on. -/
theorem gridLine_ne_zero (g : BitVec 4) : gridLine g ≠ 0 := by
  revert g
  decide

/-- A slot's start in RUNNING is safe: segments are lit only for a grid slot, whose grid is driven (R11, R12). -/
theorem PanelSafe.slotEngine {e : ScanEngine} {r : SlotRecord} {cap : Option Captured} (i : Nat)
    (hrun : e.state = .running) (hdark : r.grid = none → cap = none) : PanelSafe (slotEngine e i r cap) := by
  cases hg : r.grid with
  | none =>
    have hgrid : (Machine.slotEngine e i r cap).gridLines = 0 := by simp [Machine.slotEngine, hg]
    have hseg : (Machine.slotEngine e i r cap).segLines = 0 := by
      simp [Machine.slotEngine, hdark hg, segmentsOf]
    exact .of_dark hgrid hseg
  | some g =>
    have hgrid : (Machine.slotEngine e i r cap).gridLines = gridLine g := by simp [Machine.slotEngine, hg]
    refine ⟨fun h => absurd h (by simp [Machine.slotEngine, hrun]), .inr ⟨g, hgrid⟩, fun _ => ?_⟩
    rw [hgrid]
    exact gridLine_ne_zero g

/-! ### Operations that move none of the three blocks -/

section
variable (s : State)

@[simp] theorem linesSafe_withArb (x : Arbiter) : LinesSafe (s.withArb x) ↔ LinesSafe s := Iff.rfl
@[simp] theorem linesSafe_withWs (x : WriteStage) : LinesSafe (s.withWs x) ↔ LinesSafe s := Iff.rfl
@[simp] theorem linesSafe_withCmd (x : CommandUnit) : LinesSafe (s.withCmd x) ↔ LinesSafe s := Iff.rfl
@[simp] theorem linesSafe_withLatch (x : TableLatch) : LinesSafe (s.withLatch x) ↔ LinesSafe s := Iff.rfl
@[simp] theorem linesSafe_withCache (x : FrameCache) : LinesSafe (s.withCache x) ↔ LinesSafe s := Iff.rfl
@[simp] theorem linesSafe_withSwitch (x : FrameSwitch) : LinesSafe (s.withSwitch x) ↔ LinesSafe s := Iff.rfl
@[simp] theorem linesSafe_withKeys (x : KeyScanner) : LinesSafe (s.withKeys x) ↔ LinesSafe s := Iff.rfl
@[simp] theorem linesSafe_withQueue (x : EventQueue) : LinesSafe (s.withQueue x) ↔ LinesSafe s := Iff.rfl
@[simp] theorem linesSafe_withPending (x : List Instr) : LinesSafe (s.withPending x) ↔ LinesSafe s := Iff.rfl
@[simp] theorem linesSafe_storeHost (a : Nat) (l : Lanes) (d : Word) :
    LinesSafe (storeHost a l d s) ↔ LinesSafe s := Iff.rfl
@[simp] theorem linesSafe_storeTarget (t : WriteTarget) (d : Word) :
    LinesSafe (storeTarget t d s) ↔ LinesSafe s := Iff.rfl
@[simp] theorem linesSafe_beginLatch (p : Purpose) : LinesSafe (beginLatch p s) ↔ LinesSafe s := Iff.rfl
@[simp] theorem linesSafe_grantPart (p : PartClass) : LinesSafe (grantPart p s) ↔ LinesSafe s := Iff.rfl
@[simp] theorem linesSafe_setPins (p : Pin) (is : List PatternIndex) :
    LinesSafe (setPins p is s) ↔ LinesSafe s := Iff.rfl
@[simp] theorem linesSafe_removePins (p : Pin) : LinesSafe (removePins p s) ↔ LinesSafe s := Iff.rfl
@[simp] theorem linesSafe_abortPreparation : LinesSafe (abortPreparation s) ↔ LinesSafe s := Iff.rfl
@[simp] theorem linesSafe_replaceWaiting (c : Cell) (v : EntryValue) :
    LinesSafe (replaceWaiting c v s) ↔ LinesSafe s := by simp [linesSafe_iff]
@[simp] theorem linesSafe_placeUpdate (c : Cell) (v : EntryValue) :
    LinesSafe (placeUpdate c v s) ↔ LinesSafe s := by simp [linesSafe_iff]
@[simp] theorem linesSafe_publish (c : Cell) : LinesSafe (publish c s) ↔ LinesSafe s := by simp [linesSafe_iff]
@[simp] theorem linesSafe_complete (code : Word) (r : Result) (d : Word) :
    LinesSafe (complete code r d s) ↔ LinesSafe s := by simp [linesSafe_iff]
@[simp] theorem linesSafe_completeTaken (r : Result) (d : Word) :
    LinesSafe (completeTaken r d s) ↔ LinesSafe s := by simp [linesSafe_iff]
@[simp] theorem linesSafe_reportNext : LinesSafe (reportNext s) ↔ LinesSafe s := by simp [linesSafe_iff]
@[simp] theorem linesSafe_beginPreparation (t : List SlotRecord) (b : PatternIndex) :
    LinesSafe (beginPreparation t b s) ↔ LinesSafe s := by simp [linesSafe_iff]

end

/-! ### The scan engine and its boundary -/

theorem linesSafe_keysOnly {s t : State} (h : LinesSafe s) (hk : KeysOnly s t) : LinesSafe t := by
  rwa [linesSafe_iff, hk.events, hk.pass, hk.scan, ← linesSafe_iff]

theorem linesSafe_raise {s : State} (h : LinesSafe s) (k : EventKind) : LinesSafe (raise k s) := by
  unfold raise
  split
  · exact h
  · simpa using h.withEvents (intFollows_withPendingSet _ _)

theorem linesSafe_drainAsked {s t : State} (h : LinesSafe s) (hd : DrainAsked s t) : LinesSafe t := by
  cases hd with
  | waits hk => exact linesSafe_keysOnly h hk
  | finished n hk => simpa using linesSafe_keysOnly h hk

theorem linesSafe_startSlot {s : State} (h : LinesSafe s) (hrun : s.scan.state = .running) (i : Nat) :
    LinesSafe (startSlot i s) := by
  unfold startSlot
  split
  · exact h
  · split
    · exact h.withScan (.slotEngine i hrun fun _ => rfl)
    next hg =>
      split
      · exact linesSafe_raise (h.withScan (.slotEngine i hrun fun _ => rfl)) _
      · exact h.withScan (.slotEngine i hrun fun hn => by simp [hg] at hn)

theorem linesSafe_beginRunning {s : State} (h : LinesSafe s) (hst : s.scan.state = .starting) :
    LinesSafe (beginRunning s) := by
  refine linesSafe_startSlot ?_ (by simp) 0
  have hoff : s.scan.state ≠ .running ∨ s.scan.phase ≠ .onTime := .inl (by simp [hst])
  have hidle : LinesSafe (s.withLatch .idle) := by simpa using h
  rw [linesSafe_completeTaken, linesSafe_publish]
  exact hidle.withScan (h.panel.of_off hoff rfl rfl)

theorem linesSafe_reportCurrent {s : State} (h : LinesSafe s) : LinesSafe (reportCurrent s) := by
  unfold reportCurrent
  split
  next hc =>
    simp only [currentResident, Bool.and_eq_true, decide_eq_true_eq] at hc
    exact linesSafe_beginRunning h hc.1.1
  · exact h

theorem linesSafe_takeBoundary {s : State} (h : LinesSafe s) (hp : s.scan.phase ≠ .onTime) :
    LinesSafe (takeBoundary s) := by
  have hpanel : PanelSafe (takeBoundary s).scan := by
    obtain hs | hs := scan_takeBoundary_cases s <;> rw [hs] <;> exact h.panel.of_off (.inr hp) rfl rfl
  rw [linesSafe_iff] at h ⊢
  refine ⟨?_, ?_, hpanel⟩
  · rw [takeBoundary_eq, (KeysOnly.keyBoundary _).events]
    simpa [atBoundary] using h.1
  · rw [takeBoundary_eq, (KeysOnly.keyBoundary _).pass]
    simpa [atBoundary] using h.2.1

theorem linesSafe_endLit {s : State} (h : LinesSafe s) : LinesSafe (endLit s) :=
  h.withScan (h.panel.segmentsOff rfl rfl rfl (.inl rfl))

theorem linesSafe_endOnTime {s : State} (h : LinesSafe s) (levels : BitVec 8) :
    LinesSafe (endOnTime levels s) :=
  linesSafe_keysOnly (h.withScan (.of_dark rfl rfl)) (.sampleSlot levels _)

theorem linesSafe_tickCounted {s : State} (h : LinesSafe s) (n : Nat) (dark : Bool) :
    LinesSafe (tickCounted n dark s) :=
  h.withScan (h.panel.segmentsOff rfl rfl rfl (by cases dark <;> simp))

/-! ### The table latch -/

theorem linesSafe_latchFails {s : State} (h : LinesSafe s) (r : Result) (off : Nat) :
    LinesSafe (latchFails r off s) := by
  have hidle : LinesSafe (s.withLatch .idle) := by simpa using h
  unfold latchFails
  dsimp only
  split
  · simpa using hidle.withScan (.of_dark rfl rfl)
  · simpa using h

theorem linesSafe_watchWrite {s : State} (h : LinesSafe s) (off : Nat) : LinesSafe (watchWrite off s) := by
  unfold watchWrite
  split
  · split
    · simpa using h
    · exact linesSafe_latchFails h _ _
  · exact h

@[simp] theorem linesSafe_acceptLength (n : Nat) (s : State) : LinesSafe (acceptLength n s) ↔ LinesSafe s := by
  unfold acceptLength
  split <;> simp

theorem linesSafe_takeForce {s : State} (h : LinesSafe s) (image : List Word) (t : List RawRecord) :
    LinesSafe (takeForce image t s) := by
  have hscan : PanelSafe (latchedScan s.scan image t) := h.panel.segmentsOff rfl rfl rfl (.inr rfl)
  simpa [takeForce] using h.withScan hscan

theorem linesSafe_latchSucceeds {s : State} (h : LinesSafe s) (n : Nat) : LinesSafe (latchSucceeds n s) := by
  have haccepted : LinesSafe (acceptLength n s) := by simpa using h
  refine linesSafe_reportCurrent ?_
  simpa using linesSafe_takeForce haccepted s.latch.image s.latch.table

theorem linesSafe_holdLength {s : State} (h : LinesSafe s) : LinesSafe (holdLength s) := by
  unfold holdLength
  dsimp only
  split
  · exact linesSafe_latchSucceeds ((linesSafe_withLatch _ _).2 h) _
  · simpa using h

theorem linesSafe_checkLatched {s : State} (h : LinesSafe s) : LinesSafe (checkLatched s) := by
  unfold checkLatched
  split
  · split
    · exact linesSafe_latchFails h _ _
    · split
      · exact linesSafe_latchFails h _ _
      · exact linesSafe_holdLength h
  · split
    · exact linesSafe_latchFails h _ _
    · simpa [handOverTable] using h

theorem linesSafe_settleLength {s : State} (h : LinesSafe s) : LinesSafe (settleLength s) := by
  unfold settleLength
  split
  · split
    · exact linesSafe_latchSucceeds h _
    · exact h
  · exact h

theorem linesSafe_endLatchRead {s : State} (h : LinesSafe s) (off : Nat) : LinesSafe (endLatchRead off s) := by
  unfold endLatchRead
  dsimp only
  split
  · split
    · exact linesSafe_checkLatched (by simpa using h)
    · simpa using h
  · simpa using h

/-! ### Fill reads -/

theorem linesSafe_readWord0 {s : State} (h : LinesSafe s) (n : Nat) (idx : PatternIndex) :
    LinesSafe (readWord0 n idx s) := by
  unfold readWord0
  dsimp only
  split
  · simpa using h
  · split <;> simpa using h

@[simp] theorem linesSafe_placeWord1 (n : Nat) (idx : PatternIndex) (s : State) :
    LinesSafe (placeWord1 n idx s) ↔ LinesSafe s := by
  unfold placeWord1
  dsimp only
  split
  · simp
  · split <;> simp

theorem linesSafe_readWord1 {s : State} (h : LinesSafe s) (n : Nat) (idx : PatternIndex) :
    LinesSafe (readWord1 n idx s) := by
  have hnext : LinesSafe (if lineHasPin .next s.cache.lines n then reportNext (placeWord1 n idx s)
      else placeWord1 n idx s) := by
    split <;> simpa using h
  unfold readWord1
  dsimp only
  split
  · exact linesSafe_reportCurrent hnext
  · exact hnext

/-! ### The write stage -/

theorem linesSafe_cellWritten {s : State} (h : LinesSafe s) (c : Cell) : LinesSafe (cellWritten c s) := by
  cases c with
  | command =>
    simp only [cellWritten, endCompleting]
    split
    · exact linesSafe_raise (by simpa using h) _
    · simpa using h
  | producer =>
    simp only [cellWritten, producerWritten]
    split
    · exact linesSafe_raise (by simpa using h) _
    · exact h
  | consumer =>
    simp only [cellWritten, consumerWritten]
    split
    · simpa using h
    · exact h
  | statusRecord | pending | shownBase | scanState => exact h

theorem linesSafe_completeRecord {s : State} (h : LinesSafe s) : LinesSafe (completeRecord s) := by
  have hproducer : LinesSafe (advanceProducer s) := by simpa [advanceProducer] using h
  exact linesSafe_drainAsked (linesSafe_settleLength hproducer) (askDrain_asked _)

theorem linesSafe_endWrite {s : State} (h : LinesSafe s) (t : WriteTarget) (d : Word) (r : Bool) :
    LinesSafe (endWrite t d r s) := by
  unfold endWrite
  dsimp only
  split
  · split
    · simpa using h
    · exact linesSafe_cellWritten (by simpa using h) _
  · split <;> simpa using h
  · split
    · simpa using h
    · exact linesSafe_completeRecord (by simpa using h)

/-! ### Commands -/

theorem linesSafe_runStart {s : State} (h : LinesSafe s) : LinesSafe (runStart s) := by
  unfold runStart
  split
  next hoff =>
    have hnot : s.scan.state ≠ .running ∨ s.scan.phase ≠ .onTime := .inl (by simp [hoff])
    simpa using h.withScan (h.panel.of_off (x := { s.scan with state := .starting }) hnot rfl rfl)
  all_goals simpa using h

theorem linesSafe_stopPanel {s : State} (h : LinesSafe s) : LinesSafe (stopPanel s) := by
  simpa [stopPanel] using h.withScan
    (x := { s.scan with state := .off, table := [], gridLines := 0, segLines := 0 }) (.of_dark rfl rfl)

theorem linesSafe_runStop {s : State} (h : LinesSafe s) : LinesSafe (runStop s) := by
  unfold runStop
  split
  · simpa using linesSafe_stopPanel h
  all_goals simpa using h

theorem linesSafe_runFlip {s : State} (h : LinesSafe s) : LinesSafe (runFlip s) := by
  unfold runFlip
  split
  · split <;> simpa using h
  all_goals simpa using h

theorem linesSafe_runReload {s : State} (h : LinesSafe s) : LinesSafe (runReload s) := by
  unfold runReload
  split <;> simpa using h

theorem linesSafe_resetPanel {s : State} (h : LinesSafe s) : LinesSafe (resetPanel s) :=
  (linesSafe_iff _).2 ⟨intFollows_withPendingSet _ _, h.wait, .of_dark rfl rfl⟩

theorem linesSafe_runCommand {s : State} (h : LinesSafe s) (code : Word) : LinesSafe (runCommand code s) := by
  unfold runCommand
  split
  · exact linesSafe_runStart h
  split
  · exact linesSafe_runStop h
  split
  · exact linesSafe_runFlip h
  split
  · exact linesSafe_runReload h
  split
  · simpa [runFlush] using h
  split
  · exact linesSafe_drainAsked h (beginKeyReset_asked s)
  split
  · simpa [runPanelReset, republish] using linesSafe_resetPanel h
  split <;> simpa using h

theorem linesSafe_abortStart {s : State} (h : LinesSafe s) : LinesSafe (abortStart s) := by
  have hpins : LinesSafe (if s.latch.progress = .warming then removePins .current s
      else s.withQueue { s.queue with acceptance := none }) := by
    split <;> simpa using h
  simpa [abortStart] using (((linesSafe_withLatch _ .idle).2 hpins).withScan (.of_dark rfl rfl))

theorem linesSafe_endRunning {s : State} (h : LinesSafe s) : LinesSafe (endRunning s) := by
  unfold endRunning
  split
  · exact linesSafe_abortStart h
  split
  · split <;> simpa using h
  split
  · exact linesSafe_keysOnly h (.abortDrain s)
  · exact h

theorem linesSafe_abortRunning {s : State} (h : LinesSafe s) : LinesSafe (abortRunning s) := by
  have hcell : LinesSafe (s.withCmd { s.cmd with cellValue := 8 }) := by simpa using h
  simpa [abortRunning] using linesSafe_endRunning hcell

theorem linesSafe_refuseWrite {s : State} (h : LinesSafe s) (a : Nat) (l : Lanes) (collides : Bool) :
    LinesSafe (refuseWrite a l collides s) := by
  unfold refuseWrite
  dsimp only
  split
  · exact linesSafe_raise (by simpa using h) _
  · simpa using h

theorem linesSafe_writeCommandCell {s : State} (h : LinesSafe s) (a : Nat) (l : Lanes) (d : Word) :
    LinesSafe (writeCommandCell a l d s) := by
  unfold writeCommandCell
  split
  · split
    · simpa using h
    · exact linesSafe_runCommand (by simpa using h) _
  · split
    · exact linesSafe_abortRunning (by simpa using h)
    · exact linesSafe_refuseWrite h _ _ _
  · exact linesSafe_refuseWrite h _ _ _

/-! ### Host cycles and RESET -/

theorem linesSafe_writeGlobalLevel {s : State} (h : LinesSafe s) (a : Nat) (l : Lanes) (d : Word) :
    LinesSafe (writeGlobalLevel a l d s) := by
  have hlevel : ∀ v, LinesSafe (s.withScan { s.scan with pendingLevel := v }) := fun _ =>
    h.withScan (h.panel.segmentsOff rfl rfl rfl (.inr rfl))
  unfold writeGlobalLevel
  cases levelOfWrite l d with
  | none =>
    dsimp only
    split
    · exact linesSafe_watchWrite (by simpa using h) _
    · simpa using h
  | some v =>
    dsimp only
    split
    · exact linesSafe_watchWrite (by simpa using hlevel v) _
    · simpa using hlevel v

theorem linesSafe_writeConsumer {s : State} (h : LinesSafe s) (a : Nat) (l : Lanes) (d : Word) :
    LinesSafe (writeConsumer a l d s) := by
  unfold writeConsumer
  dsimp only
  split
  · exact linesSafe_drainAsked (by simpa using h) (askDrain_asked _)
  · exact linesSafe_raise (by simpa using h) _

theorem linesSafe_writeEnable {s : State} (h : LinesSafe s) (a : Nat) (l : Lanes) (d : Word) :
    LinesSafe (writeEnable a l d s) := by
  unfold writeEnable
  split
  · simpa using h.withEvents (intFollows_withEnableSet _ _)
  · simpa using h

theorem linesSafe_takeWrite {s : State} (h : LinesSafe s) (a : Nat) (l : Lanes) (d : Word) :
    LinesSafe (takeWrite a l d s) := by
  unfold takeWrite
  cases destination s a l with
  | plain | published => simpa [writePublished] using h
  | argument => simpa [writeArgument] using h
  | pattern => simpa [writePattern] using h
  | command => exact linesSafe_writeCommandCell h a l d
  | pendingCell => simpa [writePending] using h.withEvents (intFollows_withPendingSet _ _)
  | enableCell => exact linesSafe_writeEnable h a l d
  | consumerCell => exact linesSafe_writeConsumer h a l d
  | globalLevel => exact linesSafe_writeGlobalLevel h a l d
  | watched => exact linesSafe_watchWrite (by simpa using h) _

theorem linesSafe_takeRead {s : State} (h : LinesSafe s) (a : Nat) (l : Lanes) : LinesSafe (takeRead a l s) :=
  h.withPass h.wait

theorem linesSafe_takeCycle {s : State} (h : LinesSafe s) (c : HostCycle) : LinesSafe (takeCycle c s) := by
  cases c with
  | read a l => exact linesSafe_takeRead h a l
  | write a l d => exact linesSafe_takeWrite h a l d

theorem linesSafe_grantHost {s : State} (h : LinesSafe s) : LinesSafe (grantHost s) := by
  have hwait : WaitFollows { s.pass with waiting := none, waitLine := false } := ⟨rfl, fun _ => rfl⟩
  simpa [grantHost] using h.withPass hwait

theorem linesSafe_presentCycle {s : State} (h : LinesSafe s) (c : HostCycle) : LinesSafe (presentCycle c s) := by
  unfold presentCycle
  split
  · cases c with
    | read a l => exact linesSafe_takeRead h a l
    | write a l d => simpa [makeUnseen] using h
  next hheld =>
    split
    · exact h
    · exact h.withPass ⟨rfl, fun hr => absurd hr hheld⟩

theorem linesSafe_lineReset (s : State) : LinesSafe (lineReset s) := by
  have hint : IntFollows EventUnit.lineReset := by
    simp [IntFollows, EventUnit.lineReset, intOf]
  exact (linesSafe_iff _).2 ⟨hint, ⟨rfl, fun _ => rfl⟩, .of_dark rfl rfl⟩

theorem linesSafe_initialPublication {s : State} (h : LinesSafe s) : LinesSafe (initialPublication s) := by
  simpa [initialPublication] using h

/-! ### Every step -/

/-- Every happening keeps the laws of the lines. -/
theorem linesSafe_happening {s t : State} (h : LinesSafe s) (hh : Happening s t) : LinesSafe t := by
  cases hh with
  | nothing => exact h
  | resetAsserted => exact linesSafe_lineReset _
  | resetReleased straps hheld =>
    exact linesSafe_initialPublication (h.withPass ⟨h.wait.1, fun hr => by simp at hr⟩)
  | presented c => exact linesSafe_presentCycle h c
  | hostCycle c => exact linesSafe_takeCycle (linesSafe_grantHost h) c
  | partGranted p => simpa using h
  | latchRead off => exact linesSafe_endLatchRead h off
  | writeDone t d r => exact linesSafe_endWrite h t d r
  | lengthSettled => exact linesSafe_settleLength h
  | word0Read n idx => exact linesSafe_readWord0 h n idx
  | word1Read n idx => exact linesSafe_readWord1 h n idx
  | readDiscarded => simpa using h
  | currentReported => exact linesSafe_reportCurrent h
  | nextReported => simpa using h
  | slotStarted i hrun => exact linesSafe_startSlot h hrun i
  | litEnded => exact linesSafe_endLit h
  | onTimeEnded sense => exact linesSafe_endOnTime h sense
  | boundary hdue =>
    obtain ⟨-, hgap, -⟩ := (boundaryDue_iff s).1 hdue
    exact linesSafe_takeBoundary h (by simp [hgap])
  | drainAsked => exact linesSafe_drainAsked h (askDrain_asked s)

/-- Settles O6: every happening of a row and every tick counted down keeps the laws of the lines. -/
theorem linesStaySafe : Obligations.LinesStaySafe := fun _ _ h hst =>
  step_keeps (fun _ _ h => (linesSafe_withPending _ _).2 h) (fun _ _ => linesSafe_happening)
    (fun _ n dark _ h => linesSafe_tickCounted h n dark) h hst

/-! ## The scan engine's rows -/

/-! ### SLOT_START (R8 to R12) -/

/-- The slot that starts next is the one the rules name: the next of the table in a gap, slot 0 after a
boundary (R7, R16). -/
theorem nextSlot_eq_some {s : State} {i : Nat} {r : SlotRecord}
    (hi : (s.scan.phase = .gap ∧ i = s.scan.slotIndex + 1) ∨ (s.scan.phase = .boundaryTaken ∧ i = 0))
    (hr : s.scan.table[i]? = some r) : nextSlot s = some i := by
  obtain ⟨hp, rfl⟩ | ⟨hp, rfl⟩ := hi
  · obtain ⟨hlt, -⟩ := List.getElem?_eq_some_iff.1 hr
    simp [nextSlot, hp, hlt]
  · exact nextSlot_of_boundaryTaken hp

theorem exec_slotStart {s : State} {i : Nat} (hrun : s.scan.state = .running) (hi : nextSlot s = some i) :
    exec .slotStart s = .next (startSlot i s) := by
  simp only [exec, execSlotStart, hrun, hi]

theorem startSlot_dark {s : State} {i : Nat} {r : SlotRecord} (hr : s.scan.table[i]? = some r)
    (hg : r.grid = none) : startSlot i s = s.withScan (slotEngine s.scan i r none) := by
  simp [startSlot, hr, hg]

theorem startSlot_lit {s : State} {i : Nat} {r : SlotRecord} {g : BitVec 4} {c : Captured}
    (hr : s.scan.table[i]? = some r) (hg : r.grid = some g) (hc : slotPattern s r = some c) :
    startSlot i s = s.withScan (slotEngine s.scan i r (some c)) := by
  simp [startSlot, hr, hg, hc]

theorem startSlot_underrun {s : State} {i : Nat} {r : SlotRecord} {g : BitVec 4}
    (hr : s.scan.table[i]? = some r) (hg : r.grid = some g) (hc : slotPattern s r = none) :
    startSlot i s = raise .underrun (s.withScan (slotEngine s.scan i r none)) := by
  simp [startSlot, hr, hg, hc]

/-- A VALID line found for an index holds that index. -/
theorem lookupValid_spec {idx : PatternIndex} {lines : List Line} {x : Line} (h : lookupValid idx lines = some x) :
    x ∈ lines ∧ x.state = .valid ∧ x.index = idx := by
  have hp := List.find?_some h
  simp only [holds, Bool.and_eq_true, decide_eq_true_eq] at hp
  exact ⟨List.mem_of_find?_eq_some h, hp.2, hp.1.2⟩

/-- Lookup fails exactly when no VALID line holds the index (R8, R23). -/
theorem lookupValid_eq_none_iff (idx : PatternIndex) (lines : List Line) :
    lookupValid idx lines = none ↔ ∀ x ∈ lines, x.state = .valid → x.index ≠ idx := by
  simp only [lookupValid, List.find?_eq_none, holds, Bool.and_eq_true, decide_eq_true_eq]
  exact forall₂_congr fun x _ => ⟨fun h hv hi => h ⟨⟨by simp [hv], hi⟩, hv⟩, fun h hc => h hc.2 hc.1.2⟩

/-- Of the lines that hold an index there is one (R23): two members of a cache's lines with one index are
the same line. -/
theorem line_unique {lines : List Line}
    (hd : lines.Pairwise (fun x y => x.state ≠ .empty → y.state ≠ .empty → x.index ≠ y.index)) {x y : Line}
    (hx : x ∈ lines) (hy : y ∈ lines) (hxs : x.state ≠ .empty) (hys : y.state ≠ .empty)
    (hi : x.index = y.index) : x = y := by
  have hsymm : Std.Symm fun x y : Line => x.state ≠ .empty → y.state ≠ .empty → x.index ≠ y.index :=
    ⟨fun _ _ h hb ha heq => h ha hb heq.symm⟩
  by_contra hne
  exact hd.forall hx hy hne hxs hys hi

/-- Lookup finds the VALID line that holds the index (R8, R23). -/
theorem lookupValid_eq_some {s : State} (hs : CacheLaw s) {x : Line} (hx : x ∈ s.cache.lines)
    (hv : x.state = .valid) : lookupValid x.index s.cache.lines = some x := by
  cases hl : lookupValid x.index s.cache.lines with
  | none => exact absurd rfl ((lookupValid_eq_none_iff _ _).1 hl x hx hv)
  | some y =>
    obtain ⟨hy, hyv, hyi⟩ := lookupValid_spec hl
    obtain ⟨-, -, hdistinct, -⟩ := hs
    rw [line_unique hdistinct hy hx (by simp [hyv]) (by simp [hv]) hyi]

/-- Settles O50: the start of a dark slot, of a slot whose pattern is found, and of one whose pattern is not. -/
theorem slotStartCapturesPattern : Obligations.SlotStartCapturesPattern := by
  intro s i r hs hrun hi hr
  rw [exec_slotStart hrun (nextSlot_eq_some hi hr)]
  refine ⟨fun hg => ?_, fun g x lvl lit hg hx hv hidx hlvl hlit => ?_, fun g hg hnone => ?_⟩
  · rw [startSlot_dark hr hg]
    simp [slotEngine, hg, litTicksOf, segmentsOf]
  · have hc : slotPattern s r = some ⟨x.segments, lvl⟩ := by
      rw [slotPattern, ← hidx, lookupValid_eq_some hs hx hv, hlvl]
      rfl
    rw [startSlot_lit hr hg hc]
    simp [slotEngine, hg, litTicksOf, segmentsOf, gridLine, hlit]
  · have hc : slotPattern s r = none := by
      rw [slotPattern, (lookupValid_eq_none_iff _ _).2 hnone]
      rfl
    rw [startSlot_underrun hr hg hc]
    simp [slotEngine, hg, litTicksOf, segmentsOf, gridLine]

/-! ### LIT_TICKS_END and ON_TIME_END (R7, R11, R13, R15) -/

theorem exec_onTimeEnd {s : State} (sense : BitVec 8) (hrun : s.scan.state = .running)
    (hp : s.scan.phase = .onTime) : exec (.onTimeEnd sense) s = .next (endOnTime sense s) := by
  simp [exec, execOnTimeEnd, hrun, hp]

theorem currentOnTime_eq {s : State} {r : SlotRecord} (hr : s.scan.table[s.scan.slotIndex]? = some r) :
    currentOnTime s = r.onTime := by
  simp [currentOnTime, currentSlot, hr]

/-- A slot that is dark or carries no sense mark is not sampled, and no sample is taken while KEY_RESET runs
(R15, R60). -/
theorem sampleSlot_of_unsampled {s : State} {r : SlotRecord} (levels : BitVec 8)
    (hr : currentSlot s = some r) (h : r.grid = none ∨ r.sense = false ∨ s.keys.reset ≠ .idle) :
    sampleSlot levels s = s := by
  obtain ⟨_ | g, _ | _, off, on⟩ := r <;> simp only [sampleSlot, hr]
  have hreset : s.keys.reset ≠ .idle := by simpa using h
  simp [observe, hreset]

/-- The sample of a sense slot is handed to the key scanner (R15). -/
theorem sampleSlot_of_sampled {s : State} {r : SlotRecord} {g : BitVec 4} (levels : BitVec 8)
    (hr : currentSlot s = some r) (hg : r.grid = some g) (hm : r.sense = true) :
    sampleSlot levels s = observe g levels s := by
  obtain ⟨grid, sense, off, on⟩ := r
  cases hg
  cases hm
  simp only [sampleSlot, hr]

/-- No key's observation moves the sense polarity under which the levels are read (R60). -/
theorem observeRows_eq (grid : BitVec 4) (levels : BitVec 8) (s : State) :
    observeRows grid levels s = (List.range 8).foldl
      (fun u row => observeKey (grid.toNat * 8 + row)
        (decide (levels.getLsbD row = s.keys.closedHigh)) u) s := by
  have along : ∀ (rows : List Nat) (u : State), KeysOnly s u →
      rows.foldl (fun t row => observeKey (grid.toNat * 8 + row) (closedLevel t (levels.getLsbD row)) t) u
        = rows.foldl (fun t row => observeKey (grid.toNat * 8 + row)
            (decide (levels.getLsbD row = s.keys.closedHigh)) t) u := by
    intro rows
    induction rows with
    | nil => exact fun _ _ => rfl
    | cons row rows ih =>
      intro u hu
      simp only [List.foldl_cons, closedLevel, hu.config.closedHigh]
      exact ih _ (hu.trans (.observeKey _ _ u))
  exact along _ s (.refl s)

/-- Settles O51: the sample of a sense slot is read under the polarity in force, which no observation moves. -/
theorem onTimeEndsInGap : Obligations.OnTimeEndsInGap := by
  rintro s t r sense hrun hp hr rfl
  rw [exec_onTimeEnd sense hrun hp]
  refine ⟨fun hticks hlit => ?_, fun hnone => ?_, fun g hg hm hreset => ?_⟩
  · have hleft : min s.scan.ticksRemaining (r.onTime - s.scan.litTicks) = r.onTime - s.scan.litTicks := by omega
    simp [exec, execLitTicksEnd, endLit, hrun, hp, currentOnTime_eq hr, hlit, hleft]
  · exact congrArg _ (sampleSlot_of_unsampled sense hr hnone)
  · have hslot : currentSlot (s.withScan (gapEngine sense s.scan)) = some r := hr
    have hidle : (s.withScan (gapEngine sense s.scan)).keys.reset = .idle := hreset
    rw [endOnTime_eq, sampleSlot_of_sampled sense hslot hg hm, observe, if_pos hidle, observeRows_eq]
    rfl

/-! ### A step on an empty queue (notes/assumptions/7.md) -/

theorem step_of_empty {s : State} (h : s.pending = []) : step s = .next (scanTick s) := by
  simp only [step, h]

theorem scanTick_of_running {s : State} (h : s.scan.state = .running) :
    scanTick s = passTick (settleMoment s) := if_pos h

theorem exec_frameBoundary {s : State} (h : BoundaryDue s) :
    exec .frameBoundary s = .next (takeBoundary s) := by
  simp only [exec, execFrameBoundary, (boundaryDue_iff s).2 h, if_true]

/-- A gap, or an on-time with ticks left, has nothing to settle: the tick passes. -/
theorem step_of_settled {s : State} (hq : s.pending = []) (hrun : s.scan.state = .running)
    (hp : s.scan.phase ≠ .boundaryTaken) (ht : s.scan.phase = .onTime → s.scan.ticksRemaining ≠ 0) :
    step s = .next (passTick s) := by
  rw [step_of_empty hq, scanTick_of_running hrun, settleMoment_of_settled s hp fun h => ht h.1 h.2]

theorem passTick_of_onTime_last {s : State} (hp : s.scan.phase = .onTime) (ht : s.scan.ticksRemaining ≤ 1) :
    passTick s = endOnTime s.scan.senseLines s := by
  simp only [passTick, hp, if_pos ht]

theorem passTick_of_onTime {s : State} (hp : s.scan.phase = .onTime) (ht : 1 < s.scan.ticksRemaining) :
    passTick s = s.withScan { s.scan with
      ticksRemaining := s.scan.ticksRemaining - 1,
      segLines := if s.scan.litTicks ≤ currentOnTime s - (s.scan.ticksRemaining - 1) then 0
        else s.scan.segLines } := by
  simp only [passTick, hp, if_neg (Nat.not_le.2 ht)]

theorem passTick_of_gap {s : State} (hp : s.scan.phase = .gap) (ht : 1 < s.scan.ticksRemaining) :
    passTick s = s.withScan { s.scan with ticksRemaining := s.scan.ticksRemaining - 1 } := by
  simp only [passTick, hp, if_neg (Nat.not_le.2 ht)]

theorem passTick_of_nextSlot {s : State} {i : Nat} (hp : s.scan.phase = .gap) (ht : s.scan.ticksRemaining ≤ 1)
    (hi : nextSlot s = some i) : passTick s = startSlot i s := by
  simp only [passTick, hp, if_pos ht, hi]

theorem passTick_of_lastSlot {s : State} (hp : s.scan.phase = .gap) (ht : s.scan.ticksRemaining ≤ 1)
    (hi : nextSlot s = none) : passTick s = startSlot 0 (takeBoundary s) := by
  simp only [passTick, hp, if_pos ht, hi]

/-- A boundary just taken: slot 0 starts before the tick. -/
theorem step_of_boundaryTaken {s : State} (hq : s.pending = []) (hrun : s.scan.state = .running)
    (hp : s.scan.phase = .boundaryTaken) : step s = step (startSlot 0 s) := by
  rw [step_of_empty hq, step_of_empty (by simpa using hq), scanTick_of_running hrun,
    scanTick_of_running (by simpa using hrun), settleMoment_startSlot s hp]

/-- An on-time whose ticks have all passed ends before the tick. -/
theorem step_of_onTime_over {s : State} (hq : s.pending = []) (hrun : s.scan.state = .running)
    (hp : s.scan.phase = .onTime) (ht : s.scan.ticksRemaining = 0) :
    step s = step (endOnTime s.scan.senseLines s) := by
  have hend := scan_endOnTime s.scan.senseLines s
  have hq' : (endOnTime s.scan.senseLines s).pending = [] := (KeysOnly.sampleSlot _ _).pending.trans hq
  rw [step_of_empty hq, scanTick_of_running hrun, settleMoment_of_onTime_over s hp ht,
    step_of_settled hq' (by simpa [hend, gapEngine] using hrun) (by simp [hend, gapEngine]) (by simp [hend, gapEngine])]

/-- Settles O2: what is left of a moment comes about, then the tick of the phase passes. -/
theorem emptyQueueIsScanTick : Obligations.EmptyQueueIsScanTick := by
  intro s hq
  refine ⟨fun hrun => ?_, fun hrun hp => ?_, fun hrun hp ht => ?_, fun hrun hp ht => ?_, fun hrun hp ht => ?_,
    fun hrun hp ht => ?_, fun r hrun hp ht hr => ?_⟩
  · rw [step_of_empty hq, scanTick, if_neg hrun]
  · exact ⟨_, exec_slotStart hrun (nextSlot_of_boundaryTaken hp), by simpa using hq,
      step_of_boundaryTaken hq hrun hp⟩
  · rw [step_of_settled hq hrun (by simp [hp]) (by simp [ht]), exec_onTimeEnd _ hrun hp,
      passTick_of_onTime_last hp (by omega)]
  · have hend := scan_endOnTime s.scan.senseLines s
    exact ⟨_, exec_onTimeEnd _ hrun hp, (KeysOnly.sampleSlot _ _).pending.trans hq, by simp [hend, gapEngine],
      by simp [hend, gapEngine], step_of_onTime_over hq hrun hp ht⟩
  · have hstep := step_of_settled hq hrun (by simp [hp]) (by simp [hp])
    split
    next hi =>
      have hnext : nextSlot s = some (s.scan.slotIndex + 1) := by simp [nextSlot, hp, hi]
      rw [hstep, exec_slotStart hrun hnext, passTick_of_nextSlot hp ht hnext]
    next hi =>
      have hnext : nextSlot s = none := by simp [nextSlot, hp, hi]
      refine ⟨_, exec_frameBoundary ⟨hrun, hp, Nat.le_of_not_lt hi⟩, ?_⟩
      rw [hstep, passTick_of_lastSlot hp ht hnext, exec_slotStart (by simpa using hrun)
        (nextSlot_of_boundaryTaken (phase_takeBoundary s))]
  · rw [step_of_settled hq hrun (by simp [hp]) (by simp [hp]), passTick_of_gap hp ht]
  · rw [step_of_settled hq hrun (by simp [hp]) (by omega), passTick_of_onTime hp ht, currentOnTime_eq hr]

/-! ## Reset, the global level cell, START, RELOAD and STOP -/

/-! ### The state after reset meets the laws (R2, R42, R56, R80, R93, R110, R125, R133, R142, R148, R150) -/

theorem line_of_reset {l : Line} (h : l ∈ State.reset.cache.lines) : l = Line.emptied :=
  List.eq_of_mem_replicate h

theorem key_of_reset {k : Key} (h : k ∈ State.reset.keys.table) : k = Key.up := List.eq_of_mem_replicate h

theorem reset_linesSafe : LinesSafe State.reset := linesSafe_lineReset State.reset

theorem reset_queueLaw : QueueLaw State.reset :=
  ⟨by decide, by decide, by decide, by decide, by decide, by decide, by decide, by decide, by decide, trivial⟩

theorem reset_keyLaw : KeyLaw State.reset := by
  have hcounts : ∀ x ∈ State.reset.keys.table, x.count ≤ 7 := fun x h => by rw [key_of_reset h]; decide
  exact ⟨rfl, by decide, hcounts, by decide, by decide, by decide, by decide, by decide, by decide, by decide,
    by decide, by decide, by decide, by decide, by decide, by decide⟩

theorem reset_commandLaw : CommandLaw State.reset :=
  ⟨fun _ => ⟨rfl, rfl⟩, fun _ => rfl, rfl, rfl, rfl, nofun, rfl⟩

theorem reset_cacheLaw : CacheLaw State.reset := by
  have hlines : ∀ l ∈ State.reset.cache.lines, LineLaw l := fun l h => by
    rw [line_of_reset h]
    exact ⟨rfl, rfl, rfl, rfl⟩
  exact ⟨rfl, hlines, List.pairwise_replicate.2 (.inr fun h => absurd rfl h), by decide, by decide, by decide,
    by decide⟩

theorem reset_cacheFollows : CacheFollowsMemory State.reset := by
  have hempty : ∀ l ∈ State.reset.cache.lines, l.state = .empty := fun l h => by rw [line_of_reset h]; rfl
  exact ⟨reset_queueLaw, reset_cacheLaw, ⟨0, by decide, rfl⟩, ⟨trivial, nofun⟩, trivial,
    fun _ => ⟨rfl, rfl, hempty⟩, fun l h hs => absurd (hempty l h) hs⟩

/-- While RESET is held nothing waits, and what the law says of a part that is not held asks nothing. -/
theorem reset_published : PublishedCellsLaw State.reset :=
  ⟨reset_commandLaw, reset_queueLaw, ⟨0, by decide, rfl⟩, by decide, nofun, List.Pairwise.nil, trivial,
    fun _ => ⟨rfl, rfl, rfl, rfl, rfl⟩, fun h => absurd rfl h, nofun, nofun, nofun, nofun⟩

/-- Settles O4, law by law. -/
theorem resetMeetsLaws : Obligations.ResetMeetsLaws :=
  ⟨rfl, reset_linesSafe, reset_queueLaw, reset_keyLaw, reset_commandLaw, reset_cacheLaw, reset_cacheFollows,
    reset_published⟩

/-! ### A write of the global level cell (R17, R99, R100) -/

theorem takeRow_of_writeGranted {kind : Nat → Lanes → Word → State → Bool} {s : State} {a : Nat} {l : Lanes}
    {d : Word} {dst : Destination} (h : WriteGranted s a l d dst) (hk : kind a l d s = true) :
    takeRow kind s = takeWrite a l d (grantHost s) := takeRow_of_granted h.1 hk

/-- A granted write of the global level cell sets the pending level in `t` (R17), and a START latch watches it
(R99). -/
theorem exec_globalLevelWrite {s t : State} {a : Nat} {l : Lanes} {d : Word}
    (h : WriteGranted s a l d .globalLevel)
    (ht : t = (written s a l d).withScan { s.scan with
      pendingLevel :=
        if l.low then min 15 (if l.high then d.toNat else (lowByte d).toNat) else s.scan.pendingLevel }) :
    exec .globalLevelWrite s
      = .next (if readingPurpose s = some .start then watchWrite 0x024 t else t) := by
  have hkind : isGlobalLevelWrite a l d s = true := decide_eq_true h.2
  simp only [exec, execGlobalLevelWrite, takeRow_of_writeGranted h hkind, takeWrite, destination_grantHost, h.2]
  subst ht
  obtain ⟨_ | _, high⟩ := l <;> rfl

theorem readingPurpose_eq_some_iff (s : State) (p : Purpose) :
    readingPurpose s = some p ↔ s.latch.progress = .reading ∧ s.latch.purpose = p := by
  unfold readingPurpose
  split <;> simp_all

/-- A write of a word the latch has not read is no torn read (R99). -/
theorem watchWrite_of_unread {s : State} {off : Nat}
    (h : ¬ (s.latch.progress = .reading ∧ off ∈ s.latch.wordsRead)) : watchWrite off s = s := if_neg h

theorem watchWrite_of_restart {s : State} {off : Nat} (hp : s.latch.progress = .reading)
    (hoff : off ∈ s.latch.wordsRead) (hr : s.latch.restarts < 3) :
    watchWrite off s = s.withLatch ⟨.reading, s.latch.purpose, s.latch.restarts + 1, [], [], []⟩ := by
  simp only [watchWrite, hp, hoff, hr, restartLatch, and_self, if_true]

theorem watchWrite_of_unstable {s : State} {off : Nat} (hp : s.latch.progress = .reading)
    (hoff : off ∈ s.latch.wordsRead) (hr : 3 ≤ s.latch.restarts) :
    watchWrite off s = latchFails .tableUnstable off s := by
  simp only [watchWrite, hp, hoff, if_neg (Nat.not_lt.2 hr), and_self, if_true]

/-- A START latch that fails leaves the part OFF (R3, R104). -/
theorem latchFails_of_start {s : State} (r : Result) (off : Nat) (hp : s.latch.purpose = .start) :
    latchFails r off s = completeTaken r (toWord off) (publish .scanState
      ((s.withLatch .idle).withScan { s.scan with state := .off, gridLines := 0, segLines := 0 })) := by
  simp only [latchFails, hp]
  rfl

/-- Settles O26: the level is set, then the write is watched as that of any configuration cell. -/
theorem globalLevelWriteSetsPending : Obligations.GlobalLevelWriteSetsPending := by
  intro s t a l d hw ht
  have hlatch : t.latch = s.latch := by simp [ht, written]
  rw [exec_globalLevelWrite hw ht]
  simp only [readingPurpose_eq_some_iff, ← hlatch]
  refine ⟨fun hnot => ?_, fun hp hpur hoff hr => ?_, fun hp hpur hoff hr => ?_⟩
  · split
    next hread => exact congrArg _ (watchWrite_of_unread fun h => hnot ⟨hread.1, hread.2, h.2⟩)
    · rfl
  · rw [if_pos ⟨hp, hpur⟩, watchWrite_of_restart hp hoff hr, hpur]
  · rw [if_pos ⟨hp, hpur⟩, watchWrite_of_unstable hp hoff hr, latchFails_of_start _ _ hpur]
    rfl

/-! ### Commands taken in IDLE (R113, R118) -/

/-- A command taken in IDLE is handed to its owner. -/
theorem writeCommandCell_of_taken {s : State} {a : Nat} {l : Lanes} {d code : Word}
    (hw : CommandWritten s a l d code) (hidle : s.cmd.unit = .idle) (hcode : code ≠ 0) :
    takeWrite a l d (grantHost s) = runCommand code (commandTaken s a l d code) := by
  obtain ⟨⟨-, hdst⟩, hval⟩ := hw
  have hunit : (grantHost s).cmd.unit = .idle := hidle
  have hval' : resultingValue l d (grantHost s) = code := hval
  simp only [takeWrite, destination_grantHost, hdst, writeCommandCell, hunit, hval', if_neg hcode]
  rfl

/-- A row of a command, when its write is granted in IDLE: the command runs. -/
theorem takeRow_of_command {s : State} {a : Nat} {l : Lanes} {d code : Word}
    (hw : CommandWritten s a l d code) (hidle : s.cmd.unit = .idle) (hcode : code ≠ 0) :
    takeRow (writesCode code) s = runCommand code (commandTaken s a l d code) := by
  have hkind : writesCode code a l d s = true := decide_eq_true ⟨hw.1.2, hw.2⟩
  rw [takeRow_of_writeGranted hw.1 hkind, writeCommandCell_of_taken hw hidle hcode]

/-- The running command completes under its own code (R120). -/
theorem completeTaken_of_taken {s : State} {code : Word} (h : s.cmd.taken = some code) (r : Result) (n : Word) :
    completeTaken r n s = complete code r n s := by
  simp [completeTaken, h]

theorem completeTaken_commandTaken (s : State) (a : Nat) (l : Lanes) (d code : Word) (r : Result) (n : Word) :
    completeTaken r n (commandTaken s a l d code) = complete code r n (commandTaken s a l d code) :=
  completeTaken_of_taken rfl r n

@[simp] theorem scan_commandTaken (s : State) (a : Nat) (l : Lanes) (d code : Word) :
    (commandTaken s a l d code).scan = s.scan := rfl

/-- Settles O29: the granted write is taken as the command, which its owner then runs by the scan state. -/
theorem startAndReloadBeginLatch : Obligations.StartAndReloadBeginLatch := by
  intro s a l d hidle
  have hstart : CommandWritten s a l d 1 → exec .start s = .next (runStart (commandTaken s a l d 1)) :=
    fun hw => congrArg _ (takeRow_of_command hw hidle (by decide))
  have hreload : CommandWritten s a l d 4 → exec .reload s = .next (runReload (commandTaken s a l d 4)) :=
    fun hw => congrArg _ (takeRow_of_command hw hidle (by decide))
  refine ⟨fun hw hst => ?_, fun hw hst => ?_, fun hw hst => ?_, fun hw hst => ?_⟩
  · simp only [hstart hw, runStart, scan_commandTaken, hst, beginLatch]
  · simp only [hstart hw, runStart, scan_commandTaken, hst, completeTaken_commandTaken]
  · simp only [hreload hw, runReload, scan_commandTaken, hst, beginLatch]
  · simp only [hreload hw, runReload, scan_commandTaken, hst, completeTaken_commandTaken]

/-- Settles O30: the granted write is taken as STOP, which the scan engine runs in RUNNING. -/
theorem stopTurnsPanelOff : Obligations.StopTurnsPanelOff := by
  intro s a l d hw hidle
  have hstop : exec .stop s = .next (runStop (commandTaken s a l d 2)) :=
    congrArg _ (takeRow_of_command hw hidle (by decide))
  refine ⟨fun hst => ?_, fun hst => ?_⟩
  · have htaken : (stopPanel (commandTaken s a l d 2)).cmd.taken = some 2 := by
      simp [stopPanel, commandTaken]
    simp only [hstop, runStop, scan_commandTaken, hst, completeTaken_of_taken htaken]
    rfl
  · simp only [hstop, runStop, scan_commandTaken, hst, completeTaken_commandTaken]

/-! ## The frame boundary -/

/-! ### Placing updates: what is left as it was, and the port -/

@[simp] theorem publish_recordProgress (c : Cell) (s : State) :
    (publish c s).ws.recordProgress = s.ws.recordProgress := by simp [publish]
@[simp] theorem publish_starveCounter (c : Cell) (s : State) :
    (publish c s).arb.starveCounter = s.arb.starveCounter := by simp [publish]
@[simp] theorem publish_starveLimit (c : Cell) (s : State) :
    (publish c s).arb.starveLimit = s.arb.starveLimit := by simp [publish]
@[simp] theorem completeTaken_recordProgress (r : Result) (d : Word) (s : State) :
    (completeTaken r d s).ws.recordProgress = s.ws.recordProgress := by simp [completeTaken, complete]
@[simp] theorem completeTaken_starveCounter (r : Result) (d : Word) (s : State) :
    (completeTaken r d s).arb.starveCounter = s.arb.starveCounter := by simp [completeTaken, complete]
@[simp] theorem completeTaken_starveLimit (r : Result) (d : Word) (s : State) :
    (completeTaken r d s).arb.starveLimit = s.arb.starveLimit := by simp [completeTaken, complete]
@[simp] theorem completeTaken_cmd (r : Result) (d : Word) (s : State) :
    (completeTaken r d s).cmd = completing (s.cmd.taken.getD 0) r d s := by simp [completeTaken]
@[simp] theorem movePins_starveCounter (s : State) :
    (movePins s).arb.starveCounter = s.arb.starveCounter := rfl
@[simp] theorem movePins_starveLimit (s : State) : (movePins s).arb.starveLimit = s.arb.starveLimit := rfl

/-- The update list with an update placed (R136). -/
def placed (c : Cell) (v : EntryValue) (us : List Entry) : List Entry :=
  if hasEntry c us then replaceEntry c v us else us ++ [⟨c, v⟩]

/-- Placing an update looks at the update list only. -/
theorem placeUpdate_updates (c : Cell) (v : EntryValue) (s : State) :
    (placeUpdate c v s).ws.updates = placed c v s.ws.updates := updates_placeUpdate c v s

theorem hasEntry_placed (c c' : Cell) (v : EntryValue) (us : List Entry) :
    hasEntry c' (placed c v us) = (hasEntry c' us || decide (c' = c)) := by
  simpa [placeUpdate_updates] using hasEntry_placeUpdate c c' v (State.reset.withWs ⟨us, [], 0⟩)

/-- The memory cycle under way once an update of `c` has been placed: the write of a waiting entry's cell is of
a replaced value (R138). -/
def marked (c : Cell) (us : List Entry) (p : PortCycle) : PortCycle :=
  if hasEntry c us then markReplaced c p else p

theorem placeUpdate_port (c : Cell) (v : EntryValue) (s : State) :
    (placeUpdate c v s).arb.port = marked c s.ws.updates s.arb.port := port_placeUpdate c v s

/-- Placing an update of one cell does not decide whether another's waits. -/
theorem marked_placed {c c' : Cell} (h : c' ≠ c) (v : EntryValue) (us : List Entry) (p : PortCycle) :
    marked c' (placed c v us) p = marked c' us p := by
  simp [marked, hasEntry_placed, h]

theorem hasEntry_eq (c : Cell) (us : List Entry) : hasEntry c us = decide (c ∈ us.map Entry.cell) := by
  rw [Bool.eq_iff_iff]
  simp [hasEntry]

theorem marked_cell (c c' : Cell) (us : List Entry) (d : Word) (r : Bool) :
    marked c us (.write (.cell c') d r)
      = .write (.cell c') d (r || decide (c' = c ∧ c' ∈ us.map Entry.cell)) := by
  by_cases h : c' = c
  · subst h
    simp only [marked, hasEntry_eq, markReplaced]
    split <;> simp_all
  · simp only [marked, markReplaced, h]
    split <;> simp

/-- Only the write of a one-word cell can be of a replaced value. -/
theorem marked_of_not_cell (c : Cell) (us : List Entry) {p : PortCycle}
    (h : ∀ c' d r, p ≠ .write (.cell c') d r) : marked c us p = p := by
  unfold marked markReplaced
  split
  · split
    · exact absurd rfl (h _ _ _)
    · rfl
  · rfl

/-! ### What a switch leaves -/

@[simp] theorem switchFrames_recordProgress (r : Result) (n : Nat) (s : State) :
    (switchFrames r n s).ws.recordProgress = s.ws.recordProgress := by
  unfold switchFrames; split <;> simp
@[simp] theorem switchFrames_starveCounter (r : Result) (n : Nat) (s : State) :
    (switchFrames r n s).arb.starveCounter = s.arb.starveCounter := by
  unfold switchFrames; split <;> simp
@[simp] theorem switchFrames_starveLimit (r : Result) (n : Nat) (s : State) :
    (switchFrames r n s).arb.starveLimit = s.arb.starveLimit := by
  unfold switchFrames; split <;> simp

@[simp] theorem switchBoundary_recordProgress (s : State) :
    (switchBoundary s).ws.recordProgress = s.ws.recordProgress := by
  obtain ⟨n, h⟩ | ⟨r, h⟩ := switchBoundary_cases s <;> simp [h]
@[simp] theorem switchBoundary_starveCounter (s : State) :
    (switchBoundary s).arb.starveCounter = s.arb.starveCounter := by
  obtain ⟨n, h⟩ | ⟨r, h⟩ := switchBoundary_cases s <;> simp [h]
@[simp] theorem switchBoundary_starveLimit (s : State) :
    (switchBoundary s).arb.starveLimit = s.arb.starveLimit := by
  obtain ⟨n, h⟩ | ⟨r, h⟩ := switchBoundary_cases s <;> simp [h]

@[simp] theorem switchFrames_switch (r : Result) (n : Nat) (s : State) :
    (switchFrames r n s).switch = .noNext s.switch.timeout := by
  unfold switchFrames; split <;> simp

@[simp] theorem switchFrames_cmd (r : Result) (n : Nat) (s : State) :
    (switchFrames r n s).cmd = completing (s.cmd.taken.getD 0) r (toWord n) s := by
  unfold switchFrames; split <;> simp [completing, nextRecord]

@[simp] theorem switchFrames_cache (r : Result) (n : Nat) (s : State) :
    (switchFrames r n s).cache = (movePins s).cache := by
  unfold switchFrames
  split <;> simp <;> rfl

/-- The updates a switch places, in their order: shown base, scan state if the slot count changes, then the
completion's two (R50, R119). -/
theorem switchFrames_updates (r : Result) (n : Nat) (s : State) :
    (switchFrames r n s).ws.updates =
      placed .command (.word 0)
        (placed .statusRecord (.status (switchFrames r n s).cmd.record 0)
          (if s.switch.nextTable.length = s.scan.table.length then
            placed .shownBase (.word (s.switch.nextBase.setWidth 16)) s.ws.updates
          else
            placed .scanState
              (.word (joinBytes (BitVec.ofNat 8 s.switch.nextTable.length) (scanStateCode s.scan.state)))
              (placed .shownBase (.word (s.switch.nextBase.setWidth 16)) s.ws.updates))) := by
  rw [switchFrames_cmd]
  unfold switchFrames
  split <;>
    simp [completeTaken, complete, publish, placeUpdate_updates, cellWord, shownBaseWord, scanStateWord,
      completing, nextRecord]

/-- The port once the updates of a switch have been placed, by the list as it stood before the switch (R138). -/
theorem switchFrames_port (r : Result) (n : Nat) (s : State) :
    (switchFrames r n s).arb.port =
      marked .command s.ws.updates (marked .statusRecord s.ws.updates
        (if s.switch.nextTable.length = s.scan.table.length then
          marked .shownBase s.ws.updates (discardWithdrawn (movePins s).cache.lines s.arb.port)
        else
          marked .scanState s.ws.updates
            (marked .shownBase s.ws.updates (discardWithdrawn (movePins s).cache.lines s.arb.port)))) := by
  have hport : ∀ x, x.frameCounter = s.scan.frameCounter → (movePins (s.withScan x)).arb.port
      = discardWithdrawn (movePins s).cache.lines s.arb.port := by
    rintro x hx
    simp [movePins, repin, hx]
  unfold switchFrames
  split <;> simp [completeTaken, complete, publish, placeUpdate_port, placeUpdate_updates, marked_placed, hport]

/-! ### The cache at a switch (R26, R30, R33) -/

/-- A line after a boundary's switch: NEXT becomes CURRENT; a FILLING line left with no pin is withdrawn. -/
theorem withdrawLine_switchPins (fc : Word) (x : Line) :
    withdrawLine (switchPins fc (if x.current then { x with lastUse := fc } else x)) =
      if x.next = true then { x with current := true, next := false, lastUse := fc }
      else if x.state = .filling then
        ⟨.empty, 0, 0, 0, 0, false, false, if x.current = true then fc else x.lastUse⟩
      else if x.current = true then { x with current := false, lastUse := fc }
      else x := by
  obtain ⟨state, idx, words, segs, level, current, next, lastUse⟩ := x
  cases state <;> cases current <;> cases next <;> rfl

@[simp] theorem atBoundary_ws (s : State) : (atBoundary s).ws = s.ws := rfl
@[simp] theorem atBoundary_arb (s : State) : (atBoundary s).arb = s.arb := rfl
@[simp] theorem atBoundary_switch (s : State) : (atBoundary s).switch = s.switch := rfl
@[simp] theorem atBoundary_table (s : State) : (atBoundary s).scan.table = s.scan.table := rfl
@[simp] theorem atBoundary_scanState (s : State) : (atBoundary s).scan.state = s.scan.state := rfl

theorem lines_atBoundary (s : State) :
    (atBoundary s).cache.lines = s.cache.lines.map (fun x =>
      if x.current = true then { x with lastUse := s.scan.frameCounter + 1 } else x) := rfl

theorem lines_movePins_atBoundary (s : State) :
    (movePins (atBoundary s)).cache.lines = s.cache.lines.map (fun x =>
      if x.next = true then { x with current := true, next := false, lastUse := s.scan.frameCounter + 1 }
      else if x.state = .filling then
        ⟨.empty, 0, 0, 0, 0, false, false,
          if x.current = true then s.scan.frameCounter + 1 else x.lastUse⟩
      else if x.current = true then { x with current := false, lastUse := s.scan.frameCounter + 1 }
      else x) := by
  have hmoved : (movePins (atBoundary s)).cache.lines = (atBoundary s).cache.lines.map (fun l =>
      withdrawLine (switchPins (s.scan.frameCounter + 1) l)) := rfl
  rw [hmoved, lines_atBoundary, List.map_map]
  exact List.map_congr_left fun x _ => withdrawLine_switchPins _ x

/-- After a switch the FILLING lines are those that carried NEXT (R26, R30). -/
theorem isFilling_movePins (s : State) (n : Nat) :
    isFilling (movePins (atBoundary s)).cache.lines n
      = s.cache.lines[n]?.any (fun x => decide (x.state = .filling ∧ x.next = true)) := by
  rw [lines_movePins_atBoundary, isFilling, List.getElem?_map]
  cases s.cache.lines[n]? with
  | none => rfl
  | some x =>
    cases hnext : x.next with
    | true => simp [hnext]
    | false =>
      by_cases hfill : x.state = .filling
      · simp [hnext, hfill]
      · cases hcur : x.current <;> simp [hnext, hfill, hcur]

/-- After a switch every FILLING line is CURRENT (R30). -/
theorem isCurrent_of_isFilling_movePins {s : State} {n : Nat}
    (h : isFilling (movePins (atBoundary s)).cache.lines n = true) :
    isCurrent (movePins (atBoundary s)).cache.lines n = true := by
  rw [isFilling_movePins] at h
  rw [lines_movePins_atBoundary, isCurrent, List.getElem?_map]
  cases hx : s.cache.lines[n]? with
  | none => simp [hx] at h
  | some x =>
    have hnext : x.next = true := by
      simp only [hx, Option.any_some, decide_eq_true_eq] at h
      exact h.2
    simp [hnext]

/-- In a list with its DEMAND entries first, the DEMAND entries and then the others are the whole list (R32). -/
theorem demand_append_prefetch {fs : List FillEntry}
    (h : fs.Pairwise (fun x y => y.cls = .demand → x.cls = .demand)) :
    fs.filter (fun e => e.cls = .demand) ++ fs.filter (fun e => e.cls = .prefetch) = fs := by
  induction fs with
  | nil => rfl
  | cons e fs ih =>
    obtain ⟨he, hfs⟩ := List.pairwise_cons.1 h
    cases hc : e.cls with
    | demand => simpa [hc] using ih hfs
    | prefetch =>
      have hall : ∀ f ∈ fs, f.cls = .prefetch := fun f hf => by
        cases hfc : f.cls with
        | demand => simpa [hc] using he f hf hfc
        | prefetch => rfl
      have hnone : fs.filter (fun e => e.cls = .demand) = [] :=
        List.filter_eq_nil_iff.2 fun f hf => by simp [hall f hf]
      have hself : fs.filter (fun e => e.cls = .prefetch) = fs :=
        List.filter_eq_self.2 fun f hf => by simp [hall f hf]
      simp [hc, hnone, hself]

/-- When every waiting fill's line has gained CURRENT, every entry becomes DEMAND in its place (R33). -/
theorem promoteFills_of_current {lines : List Line} {fs : List FillEntry}
    (hcur : ∀ e ∈ fs, isCurrent lines e.line = true)
    (hord : fs.Pairwise (fun x y => y.cls = .demand → x.cls = .demand)) :
    promoteFills lines fs = fs.map (fun e => ⟨e.line, .demand⟩) := by
  have hgain : fs.filter (fun e => e.cls = .prefetch ∧ isCurrent lines e.line = true)
      = fs.filter (fun e => e.cls = .prefetch) :=
    List.filter_congr fun e he => by simp [hcur e he]
  have hrest : fs.filter (fun e => e.cls = .prefetch ∧ isCurrent lines e.line = false) = [] :=
    List.filter_eq_nil_iff.2 fun e he => by simp [hcur e he]
  have hdemand : (fs.filter (fun e => e.cls = .demand)).map (fun e => (⟨e.line, .demand⟩ : FillEntry))
      = fs.filter (fun e => e.cls = .demand) := by
    refine (List.map_congr_left fun e he => ?_).trans (List.map_id _)
    have hcls : e.cls = .demand := by simpa using (List.mem_filter.1 he).2
    rw [← hcls]
    rfl
  rw [promoteFills, hgain, hrest, List.append_nil, ← hdemand, ← List.map_append, demand_append_prefetch hord]

/-- The fill request list after a switch: the entries of the lines that carried NEXT, DEMAND, in their order
(R26, R32, R33). -/
theorem fills_movePins_atBoundary {s : State} (hs : CacheLaw s) :
    (movePins (atBoundary s)).cache.fills = (s.cache.fills.filter (fun e =>
      s.cache.lines[e.line]?.any (fun x => x.next))).map (fun e => ⟨e.line, .demand⟩) := by
  obtain ⟨-, -, -, -, hfilling, -, hord⟩ := hs
  have hmoved : (movePins (atBoundary s)).cache.fills = promoteFills (movePins (atBoundary s)).cache.lines
      (s.cache.fills.filter (fun e => isFilling (movePins (atBoundary s)).cache.lines e.line)) := rfl
  have hkept : s.cache.fills.filter (fun e => isFilling (movePins (atBoundary s)).cache.lines e.line)
      = s.cache.fills.filter (fun e => s.cache.lines[e.line]?.any (fun x => x.next)) := by
    refine List.filter_congr fun e he => ?_
    have hf := hfilling e he
    rw [isFilling_movePins]
    unfold isFilling at hf
    cases hx : s.cache.lines[e.line]? with
    | none => rfl
    | some x =>
      simp only [hx, decide_eq_true_eq] at hf
      simp [hf]
  rw [hmoved, promoteFills_of_current _ (hord.filter _), hkept]
  exact fun e he => isCurrent_of_isFilling_movePins (List.mem_filter.1 he).2

/-! ### The whole boundary (R16, R41, R49 to R52) -/

@[simp] theorem takeBoundary_pass (s : State) : (takeBoundary s).pass = s.pass :=
  (KeysOnly.keyBoundary _).pass.trans (by simp)
@[simp] theorem takeBoundary_latch (s : State) : (takeBoundary s).latch = s.latch :=
  (KeysOnly.keyBoundary _).latch.trans (by simp)
@[simp] theorem takeBoundary_events (s : State) : (takeBoundary s).events = s.events :=
  (KeysOnly.keyBoundary _).events.trans (by simp)
@[simp] theorem takeBoundary_mem (s : State) : (takeBoundary s).mem = s.mem :=
  (KeysOnly.keyBoundary _).mem.trans (by simp)
@[simp] theorem takeBoundary_freeCount (s : State) : (takeBoundary s).freeCount = s.freeCount :=
  (KeysOnly.keyBoundary _).freeCount.trans (by simp)
@[simp] theorem takeBoundary_pending (s : State) : (takeBoundary s).pending = s.pending :=
  (KeysOnly.keyBoundary _).pending.trans (by simp)
@[simp] theorem takeBoundary_recordProgress (s : State) :
    (takeBoundary s).ws.recordProgress = s.ws.recordProgress :=
  (KeysOnly.keyBoundary _).recordProgress.trans (switchBoundary_recordProgress _)
@[simp] theorem takeBoundary_starveCounter (s : State) :
    (takeBoundary s).arb.starveCounter = s.arb.starveCounter :=
  (congrArg _ (KeysOnly.keyBoundary _).arb).trans (switchBoundary_starveCounter _)
@[simp] theorem takeBoundary_starveLimit (s : State) :
    (takeBoundary s).arb.starveLimit = s.arb.starveLimit :=
  (congrArg _ (KeysOnly.keyBoundary _).arb).trans (switchBoundary_starveLimit _)

/-- SWITCH_TIMEOUT is the frame boundary at which a preparation reaches its timeout (R49). -/
theorem exec_switchTimeout {s : State} (h : BoundaryDue s) (hp : s.switch.state = .preparing)
    (ht : s.switch.framesWaited + 1 = s.switch.timeout) : exec .switchTimeout s = .next (takeBoundary s) := by
  simp [exec, execSwitchTimeout, (boundaryDue_iff s).2 h, timeoutDue, hp, ht]

/-- A boundary without a switch is that of the state after the switch's count, keys apart. -/
theorem takeBoundary_of_not_due {s : State} (h : ¬ SwitchDue s) :
    KeysOnly ((atBoundary s).withSwitch { s.switch with
      framesWaited :=
        if s.switch.state = .preparing then s.switch.framesWaited + 1 else s.switch.framesWaited })
      (takeBoundary s) := by
  have hswitch := switchBoundary_of_not_due (s := atBoundary s) h
  rw [takeBoundary_eq, hswitch]
  exact KeysOnly.keyBoundary _

/-- A boundary with a switch is that of the switch, keys apart. -/
theorem takeBoundary_of_due {s : State} (h : SwitchDue s) :
    KeysOnly (switchFrames (if s.switch.state = .ready then .done else .late) (s.switch.framesWaited + 1)
      (atBoundary s)) (takeBoundary s) := by
  have hswitch := switchBoundary_of_due (s := atBoundary s) h
  rw [takeBoundary_eq, hswitch]
  exact KeysOnly.keyBoundary _

/-- The memory cycle under way after a switch at a boundary: a read of a withdrawn fill is discarded (R38), a
write of a cell whose waiting value the switch replaces is of a replaced value (R138). -/
theorem port_switchFrames_atBoundary (r : Result) (n : Nat) (s : State) :
    (switchFrames r n (atBoundary s)).arb.port =
      (match s.arb.port with
      | .fill n i k w =>
        .fill n i k (w || !(s.cache.lines[n]?.any (fun x => decide (x.state = .filling ∧ x.next = true))))
      | .write (.cell c) d r =>
        .write (.cell c) d (r || decide (c ∈ s.ws.updates.map Entry.cell ∧
          (c ∈ [.shownBase, .statusRecord, .command]
            ∨ (c = .scanState ∧ s.switch.nextTable.length ≠ s.scan.table.length))))
      | p => p) := by
  have hport := switchFrames_port r n (atBoundary s)
  simp only [atBoundary_ws, atBoundary_arb, atBoundary_switch, atBoundary_table] at hport
  rw [hport]
  cases hp : s.arb.port with
  | free | latch => simp [discardWithdrawn, marked_of_not_cell]
  | fill m i k w => simp [discardWithdrawn, marked_of_not_cell, isFilling_movePins]
  | write t d b =>
    cases t with
    | status | record => simp [discardWithdrawn, marked_of_not_cell]
    | cell c =>
      by_cases hlen : s.switch.nextTable.length = s.scan.table.length
      · simp only [discardWithdrawn, marked_cell, if_pos hlen]
        cases c <;> simp [hlen]
      · simp only [discardWithdrawn, marked_cell, if_neg hlen]
        cases c <;> simp [hlen]

/-- Settles O52: but for the key scanner's part a boundary is the frame switch's action on the aged state; that is
at most a count without a switch, and the table, base, pins, updates and port of `switchFrames` with one. -/
theorem frameBoundaryAdvancesAndSwitches : Obligations.FrameBoundaryAdvancesAndSwitches := by
  intro s hdue
  have hrun : s.scan.state = .running := hdue.1
  refine ⟨takeBoundary s, exec_frameBoundary hdue, exec_switchTimeout hdue, by simp, by simp, by simp, by simp,
    by simp, by simp, by simp, by simp, by simp, fun hno => ?_, fun hsw => ?_⟩
  · have hk := takeBoundary_of_not_due hno
    exact ⟨hk.updates, hk.arb, hk.scan, hk.switch, hk.cmd, hk.cache⟩
  · have hk := takeBoundary_of_due hsw
    refine ⟨hk.scan.trans (scan_switchFrames _ _ _), hk.switch.trans (switchFrames_switch _ _ _), ?_, ?_,
      (congrArg _ hk.arb).trans (port_switchFrames_atBoundary _ _ s), ?_, fun hs => ?_⟩
    · rw [hk.cmd, switchFrames_cmd]
      split <;> rfl
    · rintro u rfl
      rw [hk.updates, switchFrames_updates, hk.cmd, placeUpdate_updates, placeUpdate_updates]
      by_cases hlen : s.switch.nextTable.length = s.scan.table.length
      · simp [hlen, placeUpdate_updates]
      · simp [hlen, placeUpdate_updates, hrun, scanStateCode]
    · rw [hk.cache, switchFrames_cache, lines_movePins_atBoundary]
    · rw [hk.cache, switchFrames_cache, fills_movePins_atBoundary hs]

end Sys2Proof.Machine
end

/-! PROOFS of the frame cache's statements (O10, O11, O27, O46, O47, O48, O49, O60). First how a happening reaches the
cache: a chain of changes of which at most one is of the cache (`Happening.course`), so that a law is kept by every step
when each kind of change keeps it (`step_keeps_of_changes`). Then the cache's own laws, what every line has read, and
the statements about fills, pins and promotion. -/

section
-- Proofs are elaborated one after another: in parallel their threads' stacks outgrow the checker's memory limit.
set_option Elab.async false

namespace Sys2Proof.Machine

/-! ## How a happening reaches the frame cache -/

/-- The write of a target has been made and the port is free again (R137, R153). -/
def partWritten (t : WriteTarget) (d : Word) (s : State) : State :=
  storeTarget t d (s.withArb { s.arb with port := .free })

/-- The changes that leave the frame cache as it was, each with the condition under which the part makes it. -/
inductive Aside (s : State) : State → Prop
  /-- Nothing changes of memory, the write stage's lists, the event queue, the cache, the port, the window and
  RESET; while RESET is held no latch begins. -/
  | elsewhere {t : State} (hbase : t.pass.windowBase = s.pass.windowBase := by rfl)
      (hheld : t.pass.resetHeld = s.pass.resetHeld := by rfl) (hport : t.arb.port = s.arb.port := by rfl)
      (hws : t.ws = s.ws := by rfl) (hcache : t.cache = s.cache := by rfl) (hqueue : t.queue = s.queue := by rfl)
      (hmem : t.mem = s.mem := by rfl)
      (hlatch : s.pass.resetHeld = true → s.latch.progress = .idle → t.latch.progress = .idle := by
        exact fun _ h => h) : Aside s t
  | released (straps : BitVec 4) (h : s.pass.resetHeld = true) :
      Aside s (s.withPass { s.pass with
        resetHeld := false, straps := straps, windowBase := straps.toNat * Config.strapStep })
  | freed : Aside s (s.withArb { s.arb with port := .free })
  | granted (p : PartClass) (h : canDecide s = true) : Aside s (grantPart p s)
  | marked (c : Cell) : Aside s (s.withArb { s.arb with port := markReplaced c s.arb.port })
  | updates (us : List Entry)
      (h : (∀ e ∈ s.ws.updates, WordsWrittenLaw e) → ∀ e ∈ us, WordsWrittenLaw e) :
      Aside s (s.withWs { s.ws with updates := us })
  | stageWrite (t : WriteTarget) (d : Word) (r : Bool) (h : s.arb.port = .write t d r) :
      Aside s (partWritten t d s)
  | recordWord (p k : Nat) (d : Word) (r : Bool) (h : s.arb.port = .write (.record p k) d r) (hk : k < 3) :
      Aside s ((partWritten (.record p k) d s).withWs { s.ws with recordProgress := k + 1 })
  | recordDone (p k : Nat) (d : Word) (r : Bool) (h : s.arb.port = .write (.record p k) d r) :
      Aside s (((partWritten (.record p k) d s).withWs
          { s.ws with staging := s.ws.staging.tail, recordProgress := 0 }).withQueue
          { s.queue with prod := (s.queue.prod + 1) % s.queue.len, announce := true })
  | stored (a : Nat) (l : Lanes) (d : Word)
      (h : s.pass.resetHeld = true ∨ ∀ off, destination s a l ≠ .pattern off) : Aside s (storeHost a l d s)
  | staged (e : KeyEvent) (h : canReserve s = true) : Aside s (stage e s)
  | consumed (v : Nat) (h : v = s.queue.prod ∨ validConsumer s.queue v = true) :
      Aside s (s.withQueue { s.queue with cons := v })
  | acceptance (x : Option Nat) (h : ∀ n ∈ x, 4 ≤ n ∧ n ≤ 32) :
      Aside s (s.withQueue { s.queue with acceptance := x })
  | lengthChanged (n : Nat) (hs : s.ws.staging = []) (hn : n ∈ s.queue.acceptance ∨ (4 ≤ n ∧ n ≤ 32)) :
      Aside s (s.withQueue { s.queue with len := n, prod := 0, cons := 0, acceptance := none })
  | announced (b : Bool) : Aside s (s.withQueue { s.queue with announce := b })

/-- The changes of the frame cache, with what changes beside it at the same moment. -/
inductive CacheStep (s : State) : State → Prop
  | reset (u : State) (hbase : u.pass.windowBase = s.pass.windowBase)
      (hmem : MemoryCanonical s → MemoryCanonical u) : CacheStep s (lineReset u)
  | panelReset (h : s.arb.port = .free) : CacheStep s (resetPanel s)
  | followed (off a : Nat) (l : Lanes) (d : Word) (h : destination s a l = .pattern off) :
      CacheStep s (writePattern off a l d s)
  | pinned (p : Pin) (set : List PatternIndex) (hset : set.Nodup)
      (h : s.pass.resetHeld = false ∨ s.latch.progress ≠ .idle) : CacheStep s (setPins p set s)
  | unpinned (p : Pin) : CacheStep s (removePins p s)
  | aged : CacheStep s (ageLines s)
  | switched : CacheStep s (movePins (ageLines s))
  | word0Read (n : Nat) (idx : PatternIndex) (h : s.arb.port = .fill n idx 0 false) :
      CacheStep s (readWord0 n idx s)
  | word1Read (n : Nat) (idx : PatternIndex) (h : s.arb.port = .fill n idx 1 false) :
      CacheStep s (placeWord1 n idx s)

/-- A chain of changes that leave the frame cache as it was. -/
def AsideRun (s t : State) : Prop := Relation.ReflTransGen Aside s t

namespace AsideRun

theorem refl {s : State} : AsideRun s s := Relation.ReflTransGen.refl

theorem single {s t : State} (h : Aside s t) : AsideRun s t := Relation.ReflTransGen.single h

theorem trans {s t u : State} (h : AsideRun s t) (h' : AsideRun t u) : AsideRun s u :=
  Relation.ReflTransGen.trans h h'

end AsideRun

/-- A chain of changes of which at most one is of the frame cache. -/
def Course (s t : State) : Prop :=
  ∃ u v, AsideRun s u ∧ (v = u ∨ CacheStep u v) ∧ AsideRun v t

namespace Course

theorem of_aside {s t : State} (h : AsideRun s t) : Course s t := ⟨t, t, h, .inl rfl, .refl⟩

theorem of_step {s t : State} (h : CacheStep s t) : Course s t := ⟨s, t, .refl, .inr h, .refl⟩

theorem before {s t u : State} (h : AsideRun s t) (hc : Course t u) : Course s u := by
  obtain ⟨v, w, hv, hstep, hw⟩ := hc
  exact ⟨v, w, h.trans hv, hstep, hw⟩

theorem after {s t u : State} (hc : Course s t) (h : AsideRun t u) : Course s u := by
  obtain ⟨v, w, hv, hstep, hw⟩ := hc
  exact ⟨v, w, hv, hstep, hw.trans h⟩

end Course

/-! ### Operations that leave the cache as it was -/

theorem memoryCanonical_storeHost {s : State} (h : MemoryCanonical s) (a : Nat) (l : Lanes) (d : Word) :
    MemoryCanonical (storeHost a l d s) := by
  rw [MemoryCanonical, mem_storeHost]
  exact Memory.wf_putLanes h _ _ _

theorem memoryCanonical_storeTarget {s : State} (h : MemoryCanonical s) (t : WriteTarget) (d : Word) :
    MemoryCanonical (storeTarget t d s) := by
  rw [MemoryCanonical, mem_storeTarget]
  exact Memory.wf_putLanes h _ _ _

/-- What a host write reaches is decided by the window and the latch (R146). -/
theorem destination_congr {s t : State} (hpass : t.pass = s.pass) (hlatch : t.latch = s.latch) (a : Nat)
    (l : Lanes) : destination t a l = destination s a l := by
  unfold destination inWindow readingPurpose
  rw [hpass, hlatch]

@[simp] theorem acceptLength_latch (n : Nat) (s : State) : (acceptLength n s).latch = s.latch := by
  unfold acceptLength
  split <;> simp

namespace AsideRun

theorem elsewhere {s t : State} (hbase : t.pass.windowBase = s.pass.windowBase := by rfl)
    (hheld : t.pass.resetHeld = s.pass.resetHeld := by rfl) (hport : t.arb.port = s.arb.port := by rfl)
    (hws : t.ws = s.ws := by rfl) (hcache : t.cache = s.cache := by rfl) (hqueue : t.queue = s.queue := by rfl)
    (hmem : t.mem = s.mem := by rfl)
    (hlatch : s.pass.resetHeld = true → s.latch.progress = .idle → t.latch.progress = .idle := by
      exact fun _ h => h) : AsideRun s t :=
  single (.elsewhere hbase hheld hport hws hcache hqueue hmem hlatch)

/-- A chain, then a change elsewhere. -/
theorem andElsewhere {s t u : State} (h : AsideRun s t)
    (hbase : u.pass.windowBase = t.pass.windowBase := by rfl)
    (hheld : u.pass.resetHeld = t.pass.resetHeld := by rfl) (hport : u.arb.port = t.arb.port := by rfl)
    (hws : u.ws = t.ws := by rfl) (hcache : u.cache = t.cache := by rfl) (hqueue : u.queue = t.queue := by rfl)
    (hmem : u.mem = t.mem := by rfl)
    (hlatch : t.pass.resetHeld = true → t.latch.progress = .idle → u.latch.progress = .idle := by
      exact fun _ h => h) : AsideRun s u :=
  h.trans (elsewhere hbase hheld hport hws hcache hqueue hmem hlatch)

/-- A change elsewhere, then a chain. -/
theorem fromElsewhere {s t u : State} (h : AsideRun t u)
    (hbase : t.pass.windowBase = s.pass.windowBase := by rfl)
    (hheld : t.pass.resetHeld = s.pass.resetHeld := by rfl) (hport : t.arb.port = s.arb.port := by rfl)
    (hws : t.ws = s.ws := by rfl) (hcache : t.cache = s.cache := by rfl) (hqueue : t.queue = s.queue := by rfl)
    (hmem : t.mem = s.mem := by rfl)
    (hlatch : s.pass.resetHeld = true → s.latch.progress = .idle → t.latch.progress = .idle := by
      exact fun _ h => h) : AsideRun s u :=
  (elsewhere hbase hheld hport hws hcache hqueue hmem hlatch).trans h

theorem withCmd (s : State) (x : CommandUnit) : AsideRun s (s.withCmd x) := elsewhere

/-- The latch ends or fails: it is IDLE. -/
theorem latchIdle (s : State) : AsideRun s (s.withLatch .idle) := elsewhere (hlatch := fun _ _ => rfl)

/-! #### Updates, completions, event kinds -/

theorem wordsWrittenLaw_word (c : Cell) (v : Word) : WordsWrittenLaw ⟨c, .word v⟩ := trivial

theorem replaceWaiting {c : Cell} {v : EntryValue} (hv : WordsWrittenLaw ⟨c, v⟩) (s : State) :
    AsideRun s (replaceWaiting c v s) := by
  unfold Machine.replaceWaiting
  split
  · have hus : (∀ e ∈ s.ws.updates, WordsWrittenLaw e) →
        ∀ e ∈ replaceEntry c v s.ws.updates, WordsWrittenLaw e := by
      rintro h ⟨cell, value⟩ he
      obtain ⟨he, -⟩ | ⟨hc, hval, -⟩ := mem_replaceEntry.1 he
      · exact h _ he
      · cases hc; cases hval; exact hv
    exact (single (.updates _ hus)).trans (single (.marked c))
  · exact refl

theorem placeUpdate {c : Cell} {v : EntryValue} (hv : WordsWrittenLaw ⟨c, v⟩) (s : State) :
    AsideRun s (placeUpdate c v s) := by
  unfold Machine.placeUpdate
  split
  · exact replaceWaiting hv s
  · refine single (.updates _ fun h e he => ?_)
    obtain he | he := List.mem_append.1 he
    · exact h e he
    · cases List.mem_singleton.1 he; exact hv

theorem publish (c : Cell) (s : State) : AsideRun s (publish c s) := placeUpdate (wordsWrittenLaw_word _ _) s

theorem complete (code : Word) (r : Result) (d : Word) (s : State) : AsideRun s (complete code r d s) :=
  have hstatus : WordsWrittenLaw ⟨.statusRecord, .status (nextRecord code r d s) 0⟩ := Nat.zero_le 3
  ((placeUpdate hstatus _).trans (placeUpdate (wordsWrittenLaw_word _ _) _)).fromElsewhere

theorem completeTaken (r : Result) (d : Word) (s : State) : AsideRun s (completeTaken r d s) :=
  complete _ r d s

theorem raise (k : EventKind) (s : State) : AsideRun s (raise k s) := by
  unfold Machine.raise
  split
  · exact refl
  · exact (publish _ _).fromElsewhere

/-! #### The key scanner -/

theorem of_reserve {e : KeyEvent} {s t : State} (h : reserve e s = some t) : AsideRun s t := by
  obtain ⟨hroom, rfl⟩ := (reserve_eq_some_iff e s t).1 h
  exact single (.staged e hroom)

theorem acceptRelease (k : Nat) (s : State) : AsideRun s (acceptRelease k s) := by
  unfold Machine.acceptRelease
  split
  · exact elsewhere
  next hr =>
    dsimp only
    split <;> exact (of_reserve hr).andElsewhere

theorem jamEntry (s : State) : AsideRun s (jamEntry s) := by
  unfold Machine.jamEntry
  split
  · exact refl
  · split
    · exact refl
    next hr => exact (of_reserve hr).andElsewhere

theorem refuseRollover (k : Nat) (s : State) : AsideRun s (refuseRollover k s) :=
  (jamEntry _).fromElsewhere

theorem acceptPress (k : Nat) (s : State) : AsideRun s (acceptPress k s) := by
  unfold Machine.acceptPress
  split
  · exact elsewhere
  next hr =>
    dsimp only
    split <;> exact (of_reserve hr).andElsewhere

theorem acceptChange (k : Nat) (s : State) : AsideRun s (acceptChange k s) := by
  unfold Machine.acceptChange
  split
  · exact acceptRelease k s
  · split
    · exact refuseRollover k s
    · exact acceptPress k s

theorem disagree (k : Nat) (s : State) : AsideRun s (disagree k s) := by
  unfold Machine.disagree
  split
  · exact acceptChange k s
  · dsimp only
    split
    · exact elsewhere
    · exact (acceptChange k _).fromElsewhere

theorem observeKey (k : Nat) (down : Bool) (s : State) : AsideRun s (observeKey k down s) := by
  unfold Machine.observeKey
  split
  · exact elsewhere
  · exact disagree k s

theorem foldl {α : Type} {f : State → α → State} (hf : ∀ t a, AsideRun t (f t a)) (as : List α) (s : State) :
    AsideRun s (as.foldl f s) := by
  induction as generalizing s with
  | nil => exact refl
  | cons a as ih => exact (hf s a).trans (ih _)

theorem sampleSlot (levels : BitVec 8) (s : State) : AsideRun s (sampleSlot levels s) := by
  unfold Machine.sampleSlot
  split
  · unfold observe
    split
    · exact foldl (fun t _ => observeKey _ _ t) _ s
    · exact refl
  · exact refl

theorem jamExit (s : State) : AsideRun s (jamExit s) := by
  unfold Machine.jamExit
  split
  · split
    · exact refl
    next hr => exact (of_reserve hr).andElsewhere
  · exact refl

theorem repeatEvent (k : Nat) (s : State) : AsideRun s (repeatEvent k s) := by
  unfold Machine.repeatEvent
  dsimp only
  split
  · exact elsewhere
  next hr => exact (of_reserve hr).andElsewhere

theorem repeatStep (s : State) : AsideRun s (repeatStep s) := by
  unfold Machine.repeatStep
  split
  · exact refl
  · split
    · split
      · exact repeatEvent _ s
      · exact elsewhere
    · exact refl

theorem keyBoundary (s : State) : AsideRun s (keyBoundary s) := by
  unfold Machine.keyBoundary
  split
  · exact ((jamExit s).trans (repeatStep _)).andElsewhere
  · exact refl

theorem finishKeyReset (s : State) : AsideRun s (finishKeyReset s) := (completeTaken _ _ _).fromElsewhere

theorem drainJam (s : State) : AsideRun s (drainJam s) := by
  unfold Machine.drainJam
  split
  · split
    · exact elsewhere
    next hr => exact ((of_reserve hr).andElsewhere).trans (finishKeyReset _)
  · exact finishKeyReset s

theorem drainFrom (n k : Nat) (s : State) : AsideRun s (drainFrom n k s) := by
  induction n generalizing k s with
  | zero => exact drainJam s
  | succ n ih =>
    unfold Machine.drainFrom
    split
    · split
      · exact elsewhere
      next hr => exact ((of_reserve hr).andElsewhere).trans (ih _ _)
    · exact ih _ _

theorem askDrain (s : State) : AsideRun s (askDrain s) := by
  unfold Machine.askDrain
  split
  · exact refl
  · exact drainFrom _ _ s
  · exact drainJam s

/-! #### The scan engine and its reports -/

theorem startSlot (i : Nat) (s : State) : AsideRun s (startSlot i s) := by
  unfold Machine.startSlot
  split
  · exact refl
  · split
    · exact elsewhere
    · split
      · exact (raise _ _).fromElsewhere
      · exact elsewhere

theorem endOnTime (levels : BitVec 8) (s : State) : AsideRun s (endOnTime levels s) :=
  (sampleSlot levels _).fromElsewhere

theorem beginRunning (s : State) : AsideRun s (beginRunning s) :=
  (((latchIdle s).andElsewhere.trans (publish _ _)).trans (completeTaken _ _ _)).trans (startSlot 0 _)

theorem reportCurrent (s : State) : AsideRun s (reportCurrent s) := by
  unfold Machine.reportCurrent
  split
  · exact beginRunning s
  · exact refl

theorem reportNext (s : State) : AsideRun s (reportNext s) := by
  unfold Machine.reportNext
  split
  · exact elsewhere
  · exact refl

theorem initialPublication (s : State) : AsideRun s (initialPublication s) := by
  have hcells : AsideRun s (Machine.publish .scanState (Machine.publish .shownBase (Machine.publish .consumer
      (Machine.publish .producer (Machine.publish .pending s))))) :=
    ((((publish .pending s).trans (publish _ _)).trans (publish _ _)).trans (publish _ _)).trans (publish _ _)
  have hstatus : WordsWrittenLaw ⟨.statusRecord, .status ⟨0, resultCode .reset, 0, 0⟩ 0⟩ := Nat.zero_le 3
  exact ((hcells.trans (withCmd _ _)).trans (placeUpdate hstatus _)).trans (publish .command _)

theorem republish (s : State) : AsideRun s (republish s) :=
  ((((publish .shownBase s).trans (publish _ _)).trans (publish _ _)).trans (publish _ _)).trans (publish _ _)

/-! #### The table latch -/

theorem latchFails (r : Result) (off : Nat) (s : State) : AsideRun s (latchFails r off s) := by
  unfold Machine.latchFails
  dsimp only
  split
  · exact ((latchIdle s).andElsewhere.trans (publish _ _)).trans (completeTaken _ _ _)
  · exact (latchIdle s).trans (completeTaken _ _ _)

theorem watchWrite (off : Nat) (s : State) : AsideRun s (watchWrite off s) := by
  unfold Machine.watchWrite
  split
  next hread =>
    split
    · exact elsewhere (hlatch := fun _ hidle => hidle)
    · exact latchFails _ _ s
  · exact refl

/-- The queue accepts a length in its range, or the one that waits, when it is the length in force or nothing is
staged (R91). -/
theorem acceptLength {n : Nat} {s : State} (hs : n = s.queue.len ∨ s.ws.staging = [])
    (hn : n ∈ s.queue.acceptance ∨ (4 ≤ n ∧ n ≤ 32)) : AsideRun s (acceptLength n s) := by
  unfold Machine.acceptLength
  split
  · exact single (.acceptance none nofun)
  next hne =>
    exact ((single (.lengthChanged n (hs.resolve_left hne) hn)).trans
      (publish _ _)).trans (publish _ _)

/-- The latched values take force while the latch is not IDLE (R105). -/
theorem takeForce {s : State} (h : s.latch.progress ≠ .idle) (image : List Word) (t : List RawRecord) :
    AsideRun s (takeForce image t s) := elsewhere (hlatch := fun _ hidle => absurd hidle h)

/-! #### The write stage -/

theorem endCompleting (s : State) : AsideRun s (endCompleting s) := by
  unfold Machine.endCompleting
  dsimp only
  split
  · exact (raise _ _).fromElsewhere
  · exact elsewhere

theorem producerWritten (s : State) : AsideRun s (producerWritten s) := by
  unfold Machine.producerWritten
  split
  · exact (single (.announced false)).trans (raise _ _)
  · exact refl

theorem consumerWritten (s : State) : AsideRun s (consumerWritten s) := by
  unfold Machine.consumerWritten
  split
  · exact completeTaken _ _ s
  · exact refl

theorem cellWritten (c : Cell) (s : State) : AsideRun s (cellWritten c s) := by
  cases c with
  | command => exact endCompleting s
  | producer => exact producerWritten s
  | consumer => exact consumerWritten s
  | statusRecord | pending | shownBase | scanState => exact refl

/-- A cell's entry leaves the list. -/
theorem dropEntry (c : Cell) (s : State) :
    AsideRun s (s.withWs { s.ws with updates := dropEntry c s.ws.updates }) :=
  single (.updates _ fun h e he => h e (mem_dropEntry.1 he).1)

/-- One more of the first three words of the status record has been written. -/
theorem countStatusWord {k : Nat} (hk : k < 3) (s : State) :
    AsideRun s (s.withWs { s.ws with updates := countStatusWord k s.ws.updates }) := by
  refine single (.updates _ fun h e he => ?_)
  obtain ⟨x, hx, rfl⟩ := List.mem_map.1 he
  split
  · exact hk
  · exact h x hx

/-! #### Host cycles -/

theorem takeRead (a : Nat) (l : Lanes) (s : State) : AsideRun s (takeRead a l s) := elsewhere

theorem grantHost (s : State) : AsideRun s (grantHost s) := elsewhere

/-- A write that reaches no pattern is stored, with whatever data (R147). -/
theorem storeHost {a : Nat} {l : Lanes} {s : State} (h : ∀ off, destination s a l ≠ .pattern off) (d : Word) :
    AsideRun s (storeHost a l d s) := single (.stored a l d (.inr h))

theorem makeUnseen {s : State} (h : s.pass.resetHeld = true) (c : HostCycle) :
    AsideRun s (makeUnseen c s) := by
  cases c with
  | read a l => exact takeRead a l s
  | write a l d => exact single (.stored a l d (.inl h))

theorem presentCycle (c : HostCycle) (s : State) : AsideRun s (presentCycle c s) := by
  unfold Machine.presentCycle
  split
  next hheld => exact makeUnseen hheld c
  · split
    · exact refl
    · exact elsewhere

theorem refuseWrite {a : Nat} {l : Lanes} {s : State} (h : ∀ off, destination s a l ≠ .pattern off)
    (collides : Bool) : AsideRun s (refuseWrite a l collides s) := by
  unfold Machine.refuseWrite
  dsimp only
  split
  · exact (storeHost (by exact h) _).trans (raise _ _)
  · exact storeHost (by exact h) _

theorem writePending {a : Nat} {l : Lanes} {s : State} (h : ∀ off, destination s a l ≠ .pattern off) (d : Word) :
    AsideRun s (writePending a l d s) := by
  refine ((replaceWaiting (wordsWrittenLaw_word _ _) _).trans (storeHost ?_ _)).fromElsewhere
  exact fun off => (destination_congr (by simp) (by simp) a l).trans_ne (h off)

theorem writeEnable {a : Nat} {l : Lanes} {s : State} (h : ∀ off, destination s a l ≠ .pattern off) (d : Word) :
    AsideRun s (writeEnable a l d s) := by
  unfold Machine.writeEnable
  split
  · exact (storeHost (by exact h) d).fromElsewhere
  · exact storeHost (by exact h) d

theorem writeConsumer {a : Nat} {l : Lanes} {s : State} (h : ∀ off, destination s a l ≠ .pattern off) (d : Word) :
    AsideRun s (writeConsumer a l d s) := by
  unfold Machine.writeConsumer
  dsimp only
  split
  next hv =>
    exact (((single (.consumed (mergeLanes l d (toWord s.queue.cons)).toNat (.inr hv))).trans
      (storeHost (by exact h) d)).trans
      (replaceWaiting (wordsWrittenLaw_word _ _) _)).trans (askDrain _)
  · exact (storeHost (by exact h) _).trans (raise _ _)

theorem writeGlobalLevel {a : Nat} {l : Lanes} {s : State} (h : ∀ off, destination s a l ≠ .pattern off)
    (d : Word) : AsideRun s (writeGlobalLevel a l d s) := by
  unfold Machine.writeGlobalLevel
  cases levelOfWrite l d with
  | none =>
    dsimp only
    split
    · exact (storeHost (by exact h) d).trans (watchWrite _ _)
    · exact storeHost (by exact h) d
  | some v =>
    dsimp only
    split
    · exact ((storeHost (by exact h) d).trans (watchWrite _ _)).fromElsewhere
    · exact (storeHost (by exact h) d).fromElsewhere

/-- After the pins of a switch have moved, the cache stays as it is (R50). -/
theorem switchFrames (r : Result) (n : Nat) (s : State) :
    AsideRun (movePins (s.withScan { s.scan with table := s.switch.nextTable, frameBase := s.switch.nextBase }))
      (switchFrames r n s) := by
  unfold Machine.switchFrames
  dsimp only
  split
  · exact ((publish .shownBase _).trans (completeTaken _ _ _)).fromElsewhere
  · exact (((publish .shownBase _).trans (publish .scanState _)).trans (completeTaken _ _ _)).fromElsewhere

end AsideRun

/-! ### Operations that change the cache -/

/-- The indices a table names are distinct (2.2). -/
theorem nodup_distinct (is : List PatternIndex) : (distinct is).Nodup := by
  have along : ∀ acc : List PatternIndex, acc.Nodup →
      (is.foldl (fun acc i => if i ∈ acc then acc else acc ++ [i]) acc).Nodup := by
    induction is with
    | nil => exact fun _ h => h
    | cons i is ih =>
      intro acc h
      refine ih _ ?_
      dsimp only
      split
      · exact h
      next hi => exact h.append (List.nodup_singleton i) (List.disjoint_singleton.2 hi)
  exact along [] List.nodup_nil

theorem nodup_indexSet (table : List SlotRecord) (base : PatternIndex) : (indexSet table base).Nodup :=
  nodup_distinct _

/-- A word checked and accepted lies in its range (R102). -/
theorem checkWords_eq_none {rs : List (Nat × Nat)} {ws : List Word} {off : Nat} (h : checkWords rs ws off = none)
    {k lo hi : Nat} (hk : rs[k]? = some (lo, hi)) : lo ≤ imageValue ws k ∧ imageValue ws k ≤ hi := by
  induction rs generalizing ws off k with
  | nil => simp at hk
  | cons r rs ih =>
    cases ws with
    | nil => simp [checkWords] at h
    | cons w ws =>
      simp only [checkWords] at h
      split at h
      next hw =>
        cases k with
        | zero => cases hk; exact hw
        | succ k => exact ih h hk
      · cases h

/-- The queue length of an accepted config image is in its range (R102). -/
theorem length_of_checkConfig {image : List Word} (h : checkConfig image = none) :
    4 ≤ imageValue image 8 ∧ imageValue image 8 ≤ 32 := checkWords_eq_none (k := 8) h rfl

/-- A preparation looks at no latch. -/
theorem beginPreparation_withLatch (table : List SlotRecord) (base : PatternIndex) (s : State) (x : TableLatch) :
    beginPreparation table base (s.withLatch x) = (beginPreparation table base s).withLatch x := by
  unfold beginPreparation reportNext
  split
  next h => exact (if_pos h).symm ▸ rfl
  next h => exact (if_neg h).symm ▸ rfl

namespace Course

theorem beginPreparation {s : State} (h : s.pass.resetHeld = false ∨ s.latch.progress ≠ .idle)
    (table : List SlotRecord) (base : PatternIndex) : Course s (beginPreparation table base s) := by
  let u := s.withSwitch ⟨.preparing, table, base, 0, s.switch.timeout⟩
  have hpinned : CacheStep u (setPins .next (indexSet table base) u) :=
    .pinned .next _ (nodup_indexSet table base) h
  exact before .elsewhere ((of_step hpinned).after (.reportNext _))

/-- The START latch succeeds while it holds, with a length in its range, and then the cache is pinned (R105, R107). -/
theorem latchSucceeds {n : Nat} {s : State} (hp : s.latch.progress = .holding)
    (hs : n = s.queue.len ∨ s.ws.staging = []) (hn : n ∈ s.queue.acceptance ∨ (4 ≤ n ∧ n ≤ 32)) :
    Course s (latchSucceeds n s) := by
  have hwork : (acceptLength n s).latch.progress ≠ .idle := by simp [hp]
  refine before ((((AsideRun.acceptLength hs hn).trans (.takeForce hwork s.latch.image s.latch.table)).trans
    (.publish .scanState _)).trans (.publish .shownBase _)) ((of_step (.pinned .current _ ?_ (.inr ?_))).after
      (.reportCurrent _))
  · exact nodup_indexSet _ _
  · simp [takeForce]

theorem holdLength {s : State} (hp : s.latch.progress = .reading) (hc : checkConfig s.latch.image = none) :
    Course s (holdLength s) := by
  have hhold : AsideRun s (s.withLatch { s.latch with progress := .holding }) :=
    .elsewhere (hlatch := fun _ hidle => by simp [hp] at hidle)
  have hn := length_of_checkConfig hc
  unfold Machine.holdLength
  dsimp only
  split
  next hs => exact before hhold (latchSucceeds rfl hs (.inr hn))
  · refine of_aside (hhold.trans (.single (.acceptance _ ?_)))
    rintro n ⟨⟩
    exact hn

theorem checkLatched {s : State} (hp : s.latch.progress = .reading) : Course s (checkLatched s) := by
  unfold Machine.checkLatched
  split
  · split
    · exact of_aside (.latchFails _ _ s)
    next hc =>
      split
      · exact of_aside (.latchFails _ _ s)
      · exact holdLength hp hc
  · split
    · exact of_aside (.latchFails _ _ s)
    · rw [handOverTable, beginPreparation_withLatch]
      exact (beginPreparation (.inr (by simp [hp])) _ _).after (.latchIdle _)

theorem settleLength (s : State) : Course s (settleLength s) := by
  unfold Machine.settleLength
  split
  next n hn =>
    split
    next h => exact latchSucceeds h.2 (.inr h.1) (.inl hn)
    · exact of_aside .refl
  · exact of_aside .refl

theorem endLatchRead (off : Nat) (s : State) : Course s (endLatchRead off s) := by
  have hfreed : AsideRun s (s.withArb { s.arb with port := .free }) := .single .freed
  unfold Machine.endLatchRead
  dsimp only
  split
  next hp =>
    have hword : (latchWord off (windowWord s off) s.latch).progress = .reading := by
      unfold latchWord
      split <;> exact hp
    have hread := hfreed.trans (.elsewhere (t := (s.withArb { s.arb with port := .free }).withLatch
      (latchWord off (windowWord s off) s.latch)) (hlatch := fun _ hidle => absurd hidle (by simp [hp])))
    split
    · exact before hread (checkLatched hword)
    · exact of_aside hread
  · exact of_aside hfreed

theorem readWord1 {n : Nat} {idx : PatternIndex} {s : State} (h : s.arb.port = .fill n idx 1 false) :
    Course s (readWord1 n idx s) := by
  refine after (of_step (.word1Read n idx h)) ?_
  unfold Machine.readWord1
  dsimp only
  split <;> split
  · exact (AsideRun.reportNext _).trans (.reportCurrent _)
  · exact .reportCurrent _
  · exact .reportNext _
  · exact .refl

theorem endWrite {t : WriteTarget} {d : Word} {r : Bool} {s : State} (h : s.arb.port = .write t d r) :
    Course s (endWrite t d r s) := by
  have hstored : AsideRun s (partWritten t d s) := .single (.stageWrite t d r h)
  cases t with
  | cell c =>
    refine of_aside (hstored.trans ?_)
    unfold Machine.endWrite
    dsimp only
    split
    · exact .refl
    · exact (AsideRun.dropEntry c _).trans (.cellWritten c _)
  | status k =>
    refine of_aside (hstored.trans ?_)
    unfold Machine.endWrite
    dsimp only
    split
    next hk => exact .countStatusWord hk _
    · exact .dropEntry .statusRecord _
  | record p k =>
    unfold Machine.endWrite
    dsimp only
    split
    next hk => exact of_aside (.single (.recordWord p k d r h hk))
    · have hdone := (AsideRun.single (.recordDone p k d r h)).trans (.publish .producer _)
      exact (before hdone (settleLength _)).after (.askDrain _)

/-! #### Commands -/

theorem runStart {s : State} (h : s.pass.resetHeld = false) : Course s (runStart s) := by
  unfold Machine.runStart
  split
  · have hstarting := (AsideRun.publish .scanState (s.withScan { s.scan with state := .starting })).fromElsewhere
      (s := s)
    exact of_aside (hstarting.trans (.elsewhere (hlatch := fun hr => by simp [h] at hr)))
  all_goals exact of_aside (.completeTaken _ _ s)

theorem stopPanel (s : State) : Course s (stopPanel s) := by
  let u := (s.withScan { s.scan with state := .off, table := [], gridLines := 0, segLines := 0 }).withKeys
    (clearDebounce s.keys)
  exact (before (.elsewhere (t := u)) (of_step (.unpinned .current))).after (.publish .scanState _)

theorem runCommand {s : State} (h : s.pass.resetHeld = false) (hport : s.arb.port = .free) (code : Word) :
    Course s (runCommand code s) := by
  unfold Machine.runCommand
  split
  · exact runStart h
  split
  · unfold runStop
    split
    · exact (stopPanel s).after (.completeTaken _ _ _)
    all_goals exact of_aside (.completeTaken _ _ s)
  split
  · unfold runFlip
    split
    · split
      · exact of_aside (.completeTaken _ _ s)
      · exact beginPreparation (.inl h) _ _
    all_goals exact of_aside (.completeTaken _ _ s)
  split
  · unfold runReload
    split
    · exact of_aside (.elsewhere (hlatch := fun hr => by simp [h] at hr))
    all_goals exact of_aside (.completeTaken _ _ s)
  split
  · exact of_aside ((AsideRun.single (.consumed _ (.inl rfl))).trans (.publish .consumer _))
  split
  · let u := s.withKeys { clearDebounce s.keys with reset := .draining 0, released := 0 }
    exact of_aside (AsideRun.askDrain u).fromElsewhere
  split
  · exact (of_step (.panelReset hport)).after ((AsideRun.republish _).trans (.completeTaken _ _ _))
  split <;> exact of_aside (.completeTaken _ _ s)

theorem abortStart (s : State) : Course s (abortStart s) := by
  have hpins : Course s (if s.latch.progress = .warming then removePins .current s
      else s.withQueue { s.queue with acceptance := none }) := by
    split
    · exact of_step (.unpinned .current)
    · exact of_aside (.single (.acceptance none nofun))
  exact hpins.after (((AsideRun.latchIdle _).andElsewhere).trans (.publish .scanState _))

theorem endRunning (s : State) : Course s (endRunning s) := by
  unfold Machine.endRunning
  split
  · exact abortStart s
  split
  · split
    · exact of_aside (.latchIdle s)
    · exact before (.elsewhere (t := s.withSwitch (.noNext s.switch.timeout))) (of_step (.unpinned .next))
  split
  · exact of_aside .elsewhere
  · exact of_aside .refl

theorem abortRunning (s : State) : Course s (abortRunning s) :=
  (before (.elsewhere (t := s.withCmd { s.cmd with cellValue := 8 })) (endRunning _)).after (.complete _ _ _ _)

theorem writeCommandCell {a : Nat} {l : Lanes} {s : State} (hheld : s.pass.resetHeld = false)
    (hport : s.arb.port = .free) (h : ∀ off, destination s a l ≠ .pattern off) (d : Word) :
    Course s (writeCommandCell a l d s) := by
  unfold Machine.writeCommandCell
  split
  · split
    · exact of_aside (.storeHost h d)
    · exact before ((AsideRun.storeHost h d).trans (.withCmd _ _)) (runCommand (by exact hheld) (by exact hport) _)
  · split
    · exact before (.storeHost h d) (abortRunning _)
    · exact of_aside (.refuseWrite h _)
  · exact of_aside (.refuseWrite h _)

/-- A host write taken: one that reaches a pattern is followed, any other is stored as its owner has it (R146). -/
theorem takeWrite {s : State} (hheld : s.pass.resetHeld = false) (hport : s.arb.port = .free) (a : Nat)
    (l : Lanes) (d : Word) : Course s (takeWrite a l d s) := by
  unfold Machine.takeWrite
  cases hdst : destination s a l with
  | pattern off => exact of_step (.followed off a l d hdst)
  | plain => exact of_aside (.storeHost (by simp [hdst]) d)
  | command => exact writeCommandCell hheld hport (by simp [hdst]) d
  | argument =>
    have h : ∀ off, destination s a l ≠ .pattern off := by simp [hdst]
    exact of_aside (AsideRun.storeHost (by exact h) d).fromElsewhere
  | published off => exact of_aside (.storeHost (by simp [hdst]) _)
  | pendingCell => exact of_aside (.writePending (by simp [hdst]) d)
  | enableCell => exact of_aside (.writeEnable (by simp [hdst]) d)
  | consumerCell => exact of_aside (.writeConsumer (by simp [hdst]) d)
  | globalLevel => exact of_aside (.writeGlobalLevel (by simp [hdst]) d)
  | watched off => exact of_aside ((AsideRun.storeHost (by simp [hdst]) d).trans (.watchWrite off _))

theorem takeCycle {c : HostCycle} {s : State} (h : HostGranted s c) : Course s (takeCycle c (grantHost s)) := by
  refine before (.grantHost s) ?_
  cases c with
  | read a l => exact of_aside (.takeRead a l _)
  | write a l d => exact takeWrite (s := grantHost s) h.1 (port_grantHost h) a l d

/-! #### The frame boundary and RESET -/

theorem takeBoundary (s : State) : Course s (takeBoundary s) := by
  rw [takeBoundary_eq]
  refine Course.after ?_ (.keyBoundary _)
  by_cases hdue : SwitchDue (atBoundary s)
  · rw [switchBoundary_of_due hdue]
    let u := s.withScan { boundaryEngine s.scan with table := s.switch.nextTable, frameBase := s.switch.nextBase }
    exact (before (.elsewhere (t := u)) (of_step .switched)).after (.switchFrames _ _ (atBoundary s))
  · rw [switchBoundary_of_not_due hdue]
    exact (before (.elsewhere (t := s.withScan (boundaryEngine s.scan))) (of_step .aged)).after .elsewhere

theorem resetAsserted (s : State) : Course s (lineReset (makeWaiting (endPartCycle s))) := by
  have hend : (endPartCycle s).pass = s.pass
      ∧ (MemoryCanonical s → MemoryCanonical (endPartCycle s)) := by
    unfold endPartCycle
    split
    · dsimp only
      split
      · exact ⟨rfl, fun h => memoryCanonical_storeTarget h _ _⟩
      · exact ⟨rfl, id⟩
    all_goals exact ⟨rfl, id⟩
  have hmade : (makeWaiting (endPartCycle s)).pass.windowBase = (endPartCycle s).pass.windowBase
      ∧ (MemoryCanonical (endPartCycle s) → MemoryCanonical (makeWaiting (endPartCycle s))) := by
    unfold makeWaiting
    split
    next c _ =>
      cases c with
      | read a l => exact ⟨rfl, id⟩
      | write a l d => exact ⟨rfl, fun h => memoryCanonical_storeHost h _ _ _⟩
    · exact ⟨rfl, id⟩
  exact of_step (.reset _ (hmade.1.trans (congrArg _ hend.1)) fun h => hmade.2 (hend.2 h))

end Course

/-- Every happening of a row is a chain of changes of which at most one is of the frame cache. -/
theorem Happening.course {s t : State} (h : Happening s t) : Course s t := by
  cases h with
  | nothing => exact .of_aside .refl
  | resetAsserted => exact .resetAsserted s
  | resetReleased straps h =>
    exact .of_aside ((AsideRun.single (.released straps h)).trans (.initialPublication _))
  | presented c => exact .of_aside (.presentCycle c s)
  | hostCycle c h => exact .takeCycle h
  | partGranted p h => exact .of_aside (.single (.granted p h))
  | latchRead off => exact .endLatchRead off s
  | writeDone t d r h => exact .endWrite h
  | lengthSettled => exact .settleLength s
  | word0Read n idx h => exact .of_step (.word0Read n idx h)
  | word1Read n idx h => exact .readWord1 h
  | readDiscarded => exact .of_aside (.single .freed)
  | currentReported => exact .of_aside (.reportCurrent s)
  | nextReported => exact .of_aside (.reportNext s)
  | slotStarted i => exact .of_aside (.startSlot i s)
  | litEnded => exact .of_aside .elsewhere
  | onTimeEnded sense => exact .of_aside (.endOnTime sense s)
  | boundary => exact .takeBoundary s
  | drainAsked => exact .of_aside (.askDrain s)

/-- A law that every change of the frame cache keeps, and every change beside it, is kept by every step. -/
theorem step_keeps_of_changes {P : State → Prop} (haside : ∀ s t, P s → Aside s t → P t)
    (hcache : ∀ s t, P s → CacheStep s t → P t) {s t : State} (h : P s) (hst : step s = .next t) : P t := by
  have hrun : ∀ {s t}, P s → AsideRun s t → P t := fun h hr => by
    induction hr with
    | refl => exact h
    | tail _ hc ih => exact haside _ _ ih hc
  refine step_keeps (fun s q h => haside _ _ h .elsewhere) (fun s t h hh => ?_)
    (fun s n dark _ h => haside _ _ h .elsewhere) h hst
  obtain ⟨u, v, hu, rfl | hstep, hv⟩ := hh.course
  · exact hrun (hrun h hu) hv
  · exact hrun (hcache _ _ (hrun h hu) hstep) hv

/-! ## The frame cache's laws -/

/-- The laws of `CacheLaw`, of the frame cache alone and line by line: the entries of the fill request list are
exactly those of the FILLING lines (R22, R23, R25, R32). -/
structure FrameCache.Lawful (c : FrameCache) : Prop where
  count : c.lines.length = Config.lineCount
  line : ∀ (n : Nat) (x : Line), c.lines[n]? = some x → LineLaw x
  distinct : ∀ (m n : Nat) (x y : Line), c.lines[m]? = some x → c.lines[n]? = some y →
    x.state ≠ .empty → y.state ≠ .empty → x.index = y.index → m = n
  once : (c.fills.map FillEntry.line).Nodup
  filling : ∀ n, n ∈ c.fills.map FillEntry.line ↔ isFilling c.lines n = true
  ordered : c.fills.Pairwise (fun x y => y.cls = .demand → x.cls = .demand)

theorem isFilling_iff (lines : List Line) (n : Nat) :
    isFilling lines n = true ↔ ∃ x, lines[n]? = some x ∧ x.state = .filling := by
  unfold isFilling
  split <;> simp_all

theorem cacheLaw_iff (s : State) : CacheLaw s ↔ s.cache.Lawful := by
  constructor
  · rintro ⟨hcount, hline, hdistinct, honce, hfilling, hlisted, hordered⟩
    refine ⟨hcount, fun n x hx => hline x (List.mem_of_getElem? hx), fun m n x y hx hy hxs hys hi => ?_, honce,
      fun n => ⟨fun hn => ?_, fun hn => ?_⟩, hordered⟩
    · obtain ⟨hm, rfl⟩ := List.getElem?_eq_some_iff.1 hx
      obtain ⟨hn, rfl⟩ := List.getElem?_eq_some_iff.1 hy
      obtain hlt | heq | hgt := lt_trichotomy m n
      · exact absurd hi (List.pairwise_iff_getElem.1 hdistinct m n hm hn hlt hxs hys)
      · exact heq
      · exact absurd hi.symm (List.pairwise_iff_getElem.1 hdistinct n m hn hm hgt hys hxs)
    · obtain ⟨e, he, rfl⟩ := List.mem_map.1 hn
      exact hfilling e he
    · obtain ⟨x, hx, hfill⟩ := (isFilling_iff _ _).1 hn
      exact hlisted (x, n) (List.mem_zipIdx_iff_getElem?.2 hx) hfill
  · intro h
    refine ⟨h.count, fun x hx => ?_, List.pairwise_iff_getElem.2 fun m n hm hn hlt hxs hys hi => ?_, h.once,
      fun e he => (h.filling _).1 (List.mem_map_of_mem he), fun p hp hfill => ?_, h.ordered⟩
    · obtain ⟨n, hn⟩ := List.mem_iff_getElem?.1 hx
      exact h.line n x hn
    · exact absurd (h.distinct m n _ _ (List.getElem?_eq_getElem hm) (List.getElem?_eq_getElem hn) hxs hys hi)
        (Nat.ne_of_lt hlt)
    · exact (h.filling _).2 ((isFilling_iff _ _).2 ⟨p.1, List.mem_zipIdx_iff_getElem?.1 hp, hfill⟩)

/-- The lines after one of them has been replaced. -/
theorem getElem?_set_iff {lines : List Line} {m n : Nat} {x y : Line} (hn : n < lines.length) :
    (lines.set n y)[m]? = some x ↔ (m = n ∧ x = y) ∨ (m ≠ n ∧ lines[m]? = some x) := by
  by_cases hm : m = n
  · subst hm
    simp [List.getElem?_set_self hn, eq_comm]
  · simp [List.getElem?_set_ne (Ne.symm hm), hm]

/-! ### Lines that change in place -/

/-- A line keeps its pattern, or becomes EMPTY, and none begins to fill. -/
def LineKept (x y : Line) : Prop :=
  (LineLaw x → LineLaw y) ∧
    (y.state = .empty ∨ (x.state ≠ .empty ∧ y.index = x.index ∧ (y.state = .filling → x.state = .filling)))

/-- A line that keeps its state, its pattern, its words read and, when EMPTY, all but its date. -/
theorem LineKept.of_same {x y : Line} (hs : y.state = x.state) (hi : y.index = x.index)
    (hlaw : LineLaw x → LineLaw y) : LineKept x y := by
  refine ⟨hlaw, ?_⟩
  by_cases h : x.state = .empty
  · exact .inl (hs.trans h)
  · exact .inr ⟨h, hi, fun hf => hs.symm.trans hf⟩

/-- Lines changed in place, and the entries of those no longer FILLING gone from the list. -/
theorem FrameCache.Lawful.kept {c : FrameCache} (h : c.Lawful) {lines : List Line}
    (hlen : lines.length = c.lines.length)
    (hkept : ∀ (n : Nat) (y : Line), lines[n]? = some y → ∃ x, c.lines[n]? = some x ∧ LineKept x y) :
    FrameCache.Lawful ⟨lines, c.fills.filter (fun e => isFilling lines e.line)⟩ := by
  have hheld : ∀ (n : Nat) (y : Line), lines[n]? = some y → y.state ≠ .empty →
      ∃ x, c.lines[n]? = some x ∧ x.state ≠ .empty ∧ y.index = x.index
        ∧ (y.state = .filling → x.state = .filling) := by
    intro n y hy hys
    obtain ⟨x, hx, -, hst⟩ := hkept n y hy
    obtain ⟨hxs, hi, hf⟩ := hst.resolve_left hys
    exact ⟨x, hx, hxs, hi, hf⟩
  refine ⟨hlen.trans h.count, fun n y hy => ?_, fun m n x y hx hy hxs hys hi => ?_,
    h.once.sublist (List.filter_sublist.map _), fun n => ?_, h.ordered.filter _⟩
  · obtain ⟨x, hx, hlaw, -⟩ := hkept n y hy
    exact hlaw (h.line n x hx)
  · obtain ⟨x', hx', hxs', hxi, -⟩ := hheld m x hx hxs
    obtain ⟨y', hy', hys', hyi, -⟩ := hheld n y hy hys
    exact h.distinct m n x' y' hx' hy' hxs' hys' (hxi.symm.trans (hi.trans hyi))
  · have hold : isFilling lines n = true → isFilling c.lines n = true := by
      simp only [isFilling_iff]
      rintro ⟨y, hy, hf⟩
      obtain ⟨x, hx, -, -, hxf⟩ := hheld n y hy (by simp [hf])
      exact ⟨x, hx, hxf hf⟩
    constructor
    · intro hn
      obtain ⟨e, he, rfl⟩ := List.mem_map.1 hn
      exact (List.mem_filter.1 he).2
    · intro hn
      obtain ⟨e, he, rfl⟩ := List.mem_map.1 ((h.filling n).2 (hold hn))
      exact List.mem_map.2 ⟨e, List.mem_filter.2 ⟨he, hn⟩, rfl⟩

/-- Entries leave the list only where a line ends its filling. -/
theorem FrameCache.Lawful.filter_fills {c : FrameCache} (h : c.Lawful) {lines : List Line}
    (hfill : ∀ n, isFilling c.lines n = true → isFilling lines n = true) :
    c.fills.filter (fun e => isFilling lines e.line) = c.fills :=
  List.filter_eq_self.2 fun _ he => hfill _ ((h.filling _).1 (List.mem_map_of_mem he))

/-- The list changes with every line kept FILLING that was. -/
theorem FrameCache.Lawful.withLines {c : FrameCache} (h : c.Lawful) {lines : List Line}
    (hlen : lines.length = c.lines.length)
    (hkept : ∀ (n : Nat) (y : Line), lines[n]? = some y → ∃ x, c.lines[n]? = some x ∧ LineKept x y)
    (hfill : ∀ n, isFilling c.lines n = true → isFilling lines n = true) :
    FrameCache.Lawful { c with lines := lines } := by
  simpa only [h.filter_fills hfill] using h.kept hlen hkept

/-- Lines changed one by one, each with its state kept. -/
theorem FrameCache.Lawful.mapLines {c : FrameCache} (h : c.Lawful) {f : Line → Line}
    (hs : ∀ x, (f x).state = x.state) (hi : ∀ x, (f x).index = x.index) (hlaw : ∀ x, LineLaw x → LineLaw (f x)) :
    FrameCache.Lawful { c with lines := c.lines.map f } := by
  refine h.withLines (List.length_map _) (fun n y hy => ?_) fun n hn => ?_
  · rw [List.getElem?_map] at hy
    obtain ⟨x, hx, rfl⟩ := Option.map_eq_some_iff.1 hy
    exact ⟨x, hx, .of_same (hs x) (hi x) (hlaw x)⟩
  · obtain ⟨x, hx, hf⟩ := (isFilling_iff _ _).1 hn
    exact (isFilling_iff _ _).2 ⟨f x, by rw [List.getElem?_map, hx]; rfl, (hs x).trans hf⟩

/-- One line changed, and its entry gone from the list if it is no longer FILLING. -/
theorem FrameCache.Lawful.setLine {c : FrameCache} (h : c.Lawful) {n : Nat} {x y : Line}
    (hx : c.lines[n]? = some x) (hxy : LineKept x y) :
    FrameCache.Lawful ⟨c.lines.set n y, c.fills.filter (fun e => isFilling (c.lines.set n y) e.line)⟩ := by
  obtain ⟨hn, -⟩ := List.getElem?_eq_some_iff.1 hx
  refine h.kept List.length_set fun m z hz => ?_
  obtain ⟨rfl, rfl⟩ | ⟨-, hz⟩ := (getElem?_set_iff hn).1 hz
  · exact ⟨x, hx, hxy⟩
  · exact ⟨z, hz, .of_same rfl rfl id⟩

/-! ### What a line's own operations keep -/

/-- Two lines of one state hold the same of one pattern; their pins and dates may differ. -/
structure SameContents (x y : Line) : Prop where
  state : y.state = x.state
  index : y.index = x.index
  wordsRead : y.wordsRead = x.wordsRead
  segments : y.segments = x.segments
  level : y.level = x.level

theorem SameContents.refl (x : Line) : SameContents x x := ⟨rfl, rfl, rfl, rfl, rfl⟩

theorem SameContents.trans {x y z : Line} (h : SameContents x y) (h' : SameContents y z) : SameContents x z :=
  ⟨h'.state.trans h.state, h'.index.trans h.index, h'.wordsRead.trans h.wordsRead,
    h'.segments.trans h.segments, h'.level.trans h.level⟩

theorem lineLaw_iff (x : Line) : LineLaw x ↔
    (x.state = .empty → x.wordsRead = 0 ∧ x.segments = 0 ∧ x.level = 0 ∧ pinned x = false)
    ∧ (x.state = .filling → x.wordsRead ≤ 1 ∧ pinned x = true)
    ∧ (x.state = .valid → x.wordsRead = 2) := by
  unfold LineLaw
  cases x.state <;> simp

/-- A line whose contents stay keeps the law while no EMPTY line gains a pin and no FILLING one loses its last. -/
theorem LineLaw.of_contents {x y : Line} (h : LineLaw x) (hc : SameContents x y)
    (hempty : x.state = .empty → pinned y = true → pinned x = true)
    (hfill : x.state = .filling → pinned y = true) : LineLaw y := by
  obtain ⟨he, hf, hv⟩ := (lineLaw_iff x).1 h
  rw [lineLaw_iff, hc.state, hc.wordsRead, hc.segments, hc.level]
  refine ⟨fun hs => ?_, fun hs => ⟨(hf hs).1, hfill hs⟩, hv⟩
  obtain ⟨hw, hseg, hlev, hpin⟩ := he hs
  exact ⟨hw, hseg, hlev, Bool.eq_false_iff.2 fun hy => by simp [hempty hs hy] at hpin⟩

theorem LineLaw.pinned_state {x : Line} (h : LineLaw x) (hp : pinned x = true) : x.state ≠ .empty := fun he => by
  simp [((lineLaw_iff x).1 h).1 he] at hp

theorem pinned_iff (x : Line) : pinned x = true ↔ x.current = true ∨ x.next = true := by simp [pinned]

@[simp] theorem placeLanes_state (w : Nat) (l : Lanes) (d : Word) (x : Line) :
    (placeLanes w l d x).state = x.state := by unfold placeLanes; split <;> rfl
@[simp] theorem placeLanes_index (w : Nat) (l : Lanes) (d : Word) (x : Line) :
    (placeLanes w l d x).index = x.index := by unfold placeLanes; split <;> rfl
@[simp] theorem placeLanes_wordsRead (w : Nat) (l : Lanes) (d : Word) (x : Line) :
    (placeLanes w l d x).wordsRead = x.wordsRead := by unfold placeLanes; split <;> rfl
@[simp] theorem placeLanes_current (w : Nat) (l : Lanes) (d : Word) (x : Line) :
    (placeLanes w l d x).current = x.current := by unfold placeLanes; split <;> rfl
@[simp] theorem placeLanes_next (w : Nat) (l : Lanes) (d : Word) (x : Line) :
    (placeLanes w l d x).next = x.next := by unfold placeLanes; split <;> rfl

@[simp] theorem pinned_placeLanes (w : Nat) (l : Lanes) (d : Word) (x : Line) :
    pinned (placeLanes w l d x) = pinned x := by simp [pinned]

theorem sameContents_addPin (p : Pin) (fc : Word) (x : Line) :
    SameContents x { addPin p x with lastUse := fc } := by cases p <;> exact ⟨rfl, rfl, rfl, rfl, rfl⟩

@[simp] theorem pinned_addPin (p : Pin) (x : Line) : pinned (addPin p x) = true := by
  cases p <;> simp [addPin, pinned]

theorem sameContents_dropPin (p : Pin) (x : Line) : SameContents x (dropPin p x) := by
  cases p <;> exact ⟨rfl, rfl, rfl, rfl, rfl⟩

theorem pinned_of_dropPin {p : Pin} {x : Line} (h : pinned (dropPin p x) = true) : pinned x = true := by
  rw [pinned_iff] at h ⊢
  cases p <;> simp_all [dropPin]

theorem sameContents_switchPins (fc : Word) (x : Line) : SameContents x (switchPins fc x) := by
  unfold switchPins
  split <;> exact ⟨rfl, rfl, rfl, rfl, rfl⟩

theorem pinned_of_switchPins {fc : Word} {x : Line} (h : pinned (switchPins fc x) = true) : pinned x = true := by
  unfold switchPins at h
  split at h <;> simp_all [pinned]

/-- A line whose pins have changed, withdrawn if it is FILLING and has none left, keeps its law and its pattern or is
EMPTY (R22, R26). -/
theorem lineKept_withdrawLine {x y : Line} (hc : SameContents x y) (hpin : pinned y = true → pinned x = true) :
    LineKept x (withdrawLine y) := by
  unfold withdrawLine
  split
  · exact ⟨fun _ => ⟨rfl, rfl, rfl, rfl⟩, .inl rfl⟩
  next h =>
    refine .of_same hc.state hc.index fun hx => hx.of_contents hc (fun _ => hpin) fun hf => ?_
    simpa [hc.state, hf] using h

/-! ### The fill request list (R32, R33) -/

theorem prefetch_eq_not_demand (fs : List FillEntry) :
    fs.filter (fun e => e.cls = .prefetch) = fs.filter (fun e => !decide (e.cls = .demand)) := by
  refine List.filter_congr fun e _ => ?_
  cases e.cls <;> rfl

/-- The DEMAND entries and the PREFETCH entries are all entries. -/
theorem demand_append_prefetch_perm (fs : List FillEntry) :
    (fs.filter (fun e => e.cls = .demand) ++ fs.filter (fun e => e.cls = .prefetch)).Perm fs := by
  rw [prefetch_eq_not_demand]
  exact List.filter_append_perm _ fs

/-- DEMAND entries ahead of PREFETCH entries are in the order of R32. -/
theorem ordered_append {ds ps : List FillEntry} (hd : ∀ e ∈ ds, e.cls = .demand)
    (hp : ∀ e ∈ ps, e.cls = .prefetch) :
    (ds ++ ps).Pairwise (fun x y => y.cls = .demand → x.cls = .demand) := by
  refine List.pairwise_append.2 ⟨?_, ?_, fun x hx y _ _ => hd x hx⟩
  · exact List.pairwise_of_forall_mem_list fun x hx y _ _ => hd x hx
  · exact List.pairwise_of_forall_mem_list fun x _ y hy h => by simp [hp y hy] at h

theorem joinFills_perm (e : FillEntry) (fs : List FillEntry) : (joinFills e fs).Perm (e :: fs) := by
  unfold joinFills
  split
  · rw [List.append_assoc]
    exact List.perm_middle.trans ((demand_append_prefetch_perm fs).cons e)
  · exact List.perm_append_singleton e fs

theorem ordered_joinFills {e : FillEntry} {fs : List FillEntry}
    (h : fs.Pairwise (fun x y => y.cls = .demand → x.cls = .demand)) :
    (joinFills e fs).Pairwise (fun x y => y.cls = .demand → x.cls = .demand) := by
  unfold joinFills
  split
  next he =>
    refine ordered_append (fun x hx => ?_) fun x hx => by simpa using (List.mem_filter.1 hx).2
    obtain hx | hx := List.mem_append.1 hx
    · simpa using (List.mem_filter.1 hx).2
    · rw [List.mem_singleton.1 hx, he]
  next he =>
    refine List.pairwise_append.2 ⟨h, List.pairwise_singleton _ _, fun x _ y hy hd => ?_⟩
    rw [List.mem_singleton.1 hy, he] at hd
    cases hd

/-- Promotion moves entries and changes their class, no more (R33). -/
theorem promoteFills_lines_perm (lines : List Line) (fs : List FillEntry) :
    ((promoteFills lines fs).map FillEntry.line).Perm (fs.map FillEntry.line) := by
  have hsplit : ((fs.filter (fun e => e.cls = .prefetch ∧ isCurrent lines e.line = true))
      ++ fs.filter (fun e => e.cls = .prefetch ∧ isCurrent lines e.line = false)).Perm
      (fs.filter (fun e => e.cls = .prefetch)) := by
    have h := List.filter_append_perm (fun e : FillEntry => isCurrent lines e.line)
      (fs.filter (fun e => e.cls = .prefetch))
    simpa [List.filter_filter, Bool.and_comm, and_comm] using h
  have hlines := (((hsplit.append_left _).trans (demand_append_prefetch_perm fs)).map FillEntry.line)
  simpa [promoteFills, Function.comp_def] using hlines

theorem ordered_promoteFills (lines : List Line) (fs : List FillEntry) :
    (promoteFills lines fs).Pairwise (fun x y => y.cls = .demand → x.cls = .demand) := by
  refine ordered_append (fun x hx => ?_) fun x hx => ?_
  obtain hx | hx := List.mem_append.1 hx
  · simpa using (List.mem_filter.1 hx).2
  · obtain ⟨e, -, rfl⟩ := List.mem_map.1 hx
    rfl
  · have hcls := (List.mem_filter.1 hx).2
    simp only [decide_eq_true_eq] at hcls
    exact hcls.1

theorem FrameCache.Lawful.promoted {c : FrameCache} (h : c.Lawful) :
    FrameCache.Lawful { c with fills := promoteFills c.lines c.fills } :=
  have hperm := promoteFills_lines_perm c.lines c.fills
  ⟨h.count, h.line, h.distinct, hperm.nodup_iff.2 h.once, fun n => hperm.mem_iff.trans (h.filling n),
    ordered_promoteFills _ _⟩

/-! ### Allocation (R24, R25) -/

/-- The search for the oldest line answers the best line it was given or a reusable one of its list. -/
theorem oldestFrom_cases {fc : Word} {ls : List Line} {k : Nat} {best : Option (Nat × Nat)} {r : Nat × Nat}
    (h : oldestFrom fc ls k best = some r) :
    best = some r ∨ ∃ j x, ls[j]? = some x ∧ reusable x = true ∧ r.1 = k + j := by
  induction ls generalizing k best with
  | nil => exact .inl h
  | cons x ls ih =>
    obtain hbest | ⟨j, y, hy, hr, hk⟩ := ih h
    · by_cases hx : reusable x = true
      · have hcase : best = some r ∨ r = (k, age fc x) := by
          simp only [hx, if_true] at hbest
          split at hbest
          · exact .inr (Option.some.inj hbest).symm
          · split at hbest
            · exact .inr (Option.some.inj hbest).symm
            · exact .inl hbest
        obtain hb | rfl := hcase
        · exact .inl hb
        · exact .inr ⟨0, x, rfl, hx, rfl⟩
      · exact .inl (by simpa [hx] using hbest)
    · exact .inr ⟨j + 1, y, hy, hr, by omega⟩

/-- An allocation takes an EMPTY line, or a VALID one with no pin (R25). -/
theorem chooseLine_spec {fc : Word} {lines : List Line} {n : Nat} (h : chooseLine fc lines = some n) :
    ∃ x, lines[n]? = some x ∧ (x.state = .empty ∨ reusable x = true) := by
  unfold chooseLine at h
  split at h
  next m hm =>
    cases h
    obtain ⟨hlt, hp, -⟩ := List.findIdx?_eq_some_iff_getElem.1 hm
    exact ⟨lines[n], List.getElem?_eq_getElem hlt, .inl (by simpa using hp)⟩
  · obtain ⟨⟨m, a⟩, hold, rfl⟩ := Option.map_eq_some_iff.1 h
    obtain hb | ⟨j, x, hx, hr, rfl⟩ := oldestFrom_cases hold
    · cases hb
    · exact ⟨x, by simpa using hx, .inr hr⟩

theorem reusable_iff (x : Line) : reusable x = true ↔ x.state = .valid ∧ pinned x = false := by
  simp [reusable]

theorem not_filling_of_chooseLine {fc : Word} {lines : List Line} {n : Nat} (h : chooseLine fc lines = some n) :
    isFilling lines n = false := by
  obtain ⟨x, hx, hs⟩ := chooseLine_spec h
  rw [reusable_iff] at hs
  rw [← Bool.not_eq_true, isFilling_iff]
  rintro ⟨y, hy, hf⟩
  obtain rfl : x = y := Option.some.inj (hx.symm.trans hy)
  simp [hf] at hs

theorem holds_iff (i : PatternIndex) (x : Line) : holds i x = true ↔ x.state ≠ .empty ∧ x.index = i := by
  simp [holds]

/-- An allocation leaves no line holding an index but those of before and its own. -/
theorem any_holds_allocate {p : Pin} {fc : Word} {c : FrameCache} {i j : PatternIndex}
    (h : (allocate p fc c i).lines.any (holds j) = true) : c.lines.any (holds j) = true ∨ j = i := by
  unfold allocate at h
  split at h
  · exact .inl h
  · obtain ⟨x, hx, hj⟩ := List.any_eq_true.1 h
    obtain hx | rfl := List.mem_or_eq_of_mem_set hx
    · exact .inl (List.any_eq_true.2 ⟨x, hx, hj⟩)
    · refine .inr ?_
      rw [← ((holds_iff _ _).1 hj).2]
      cases p <;> rfl

/-- An allocation for an index that no line holds keeps the laws (R23, R24, R32). -/
theorem FrameCache.Lawful.allocate {c : FrameCache} (h : c.Lawful) (p : Pin) (fc : Word) {i : PatternIndex}
    (hi : c.lines.any (holds i) = false) : (allocate p fc c i).Lawful := by
  unfold Machine.allocate
  split
  · exact h
  next n hn =>
    have hfree := not_filling_of_chooseLine hn
    obtain ⟨hlt, -⟩ := List.getElem?_eq_some_iff.1 (chooseLine_spec hn).choose_spec.1
    have hstate : (allocatedLine p fc i).state = .filling := by cases p <;> rfl
    have hindex : (allocatedLine p fc i).index = i := by cases p <;> rfl
    have hget := fun m x => getElem?_set_iff (m := m) (x := x) (y := allocatedLine p fc i) hlt
    have hother : ∀ (m : Nat) (x : Line), c.lines[m]? = some x → x.state ≠ .empty → x.index ≠ i := by
      intro m x hx hxs hxi
      have hheld := List.any_eq_true.2 ⟨x, List.mem_of_getElem? hx, (holds_iff i x).2 ⟨hxs, hxi⟩⟩
      rw [hi] at hheld
      cases hheld
    have hperm := (joinFills_perm ⟨n, classOfPin p⟩ c.fills).map FillEntry.line
    refine ⟨List.length_set.trans h.count, fun m x hx => ?_, fun m m' x y hx hy hxs hys hxy => ?_, ?_,
      fun m => hperm.mem_iff.trans ?_, ordered_joinFills h.ordered⟩
    · obtain ⟨-, rfl⟩ | ⟨-, hx⟩ := (hget m x).1 hx
      · cases p <;> exact ⟨Nat.zero_le 1, rfl⟩
      · exact h.line m x hx
    · obtain ⟨hm, rfl⟩ | ⟨-, hx⟩ := (hget m x).1 hx
      · obtain ⟨hm', -⟩ | ⟨-, hy⟩ := (hget m' y).1 hy
        · exact hm.trans hm'.symm
        · exact absurd (hxy.symm.trans hindex) (hother m' y hy hys)
      · obtain ⟨-, rfl⟩ | ⟨-, hy⟩ := (hget m' y).1 hy
        · exact absurd (hxy.trans hindex) (hother m x hx hxs)
        · exact h.distinct m m' x y hx hy hxs hys hxy
    · refine hperm.nodup_iff.2 (List.nodup_cons.2 ⟨fun hmem => ?_, h.once⟩)
      rw [(h.filling n).1 hmem] at hfree
      cases hfree
    · rw [List.map_cons, List.mem_cons, h.filling, isFilling_iff, isFilling_iff]
      by_cases hm : m = n
      · simp [hget, hm, hstate]
      · simp [hget, hm]

/-- Allocations for distinct indices that no line holds keep the laws. -/
theorem FrameCache.Lawful.foldl_allocate {c : FrameCache} (h : c.Lawful) (p : Pin) (fc : Word)
    {is : List PatternIndex} (hnodup : is.Nodup) (his : ∀ i ∈ is, c.lines.any (holds i) = false) :
    (is.foldl (Machine.allocate p fc) c).Lawful := by
  induction is generalizing c with
  | nil => exact h
  | cons i is ih =>
    obtain ⟨hi, hnodup⟩ := List.nodup_cons.1 hnodup
    refine ih (h.allocate p fc (his i List.mem_cons_self)) hnodup fun j hj => ?_
    rw [← Bool.not_eq_true]
    intro hheld
    obtain hheld | rfl := any_holds_allocate hheld
    · rw [his j (List.mem_cons_of_mem i hj)] at hheld
      cases hheld
    · exact hi hj

/-- A line after pass 1 of a pin request (R24). -/
def pinHeldLine (p : Pin) (fc : Word) (set : List PatternIndex) (x : Line) : Line :=
  if x.state ≠ .empty ∧ x.index ∈ set then { addPin p x with lastUse := fc } else x

theorem pinHeld_eq (p : Pin) (fc : Word) (set : List PatternIndex) (lines : List Line) :
    pinHeld p fc set lines = lines.map (pinHeldLine p fc set) := rfl

theorem sameContents_pinHeldLine (p : Pin) (fc : Word) (set : List PatternIndex) (x : Line) :
    SameContents x (pinHeldLine p fc set x) := by
  unfold pinHeldLine
  split
  · exact sameContents_addPin p fc x
  · exact .refl x

theorem lineLaw_pinHeldLine {p : Pin} {fc : Word} {set : List PatternIndex} {x : Line} (h : LineLaw x) :
    LineLaw (pinHeldLine p fc set x) := by
  unfold pinHeldLine
  split
  next hx => exact h.of_contents (sameContents_addPin p fc x) (fun he => absurd he hx.1) fun _ => pinned_addPin p x
  · exact h

/-- Pass 1 moves no pattern. -/
theorem any_holds_pinHeld (p : Pin) (fc : Word) (set : List PatternIndex) (lines : List Line) (i : PatternIndex) :
    (pinHeld p fc set lines).any (holds i) = lines.any (holds i) := by
  rw [pinHeld_eq, List.any_map]
  congr 1
  funext x
  have hc := sameContents_pinHeldLine p fc set x
  simp [holds, hc.state, hc.index]

/-- The indices of a set that no line holds, in the set's order (R24). -/
def missing (set : List PatternIndex) (lines : List Line) : List PatternIndex :=
  set.filter (fun i => !lines.any (holds i))

theorem pinCache_eq (p : Pin) (fc : Word) (set : List PatternIndex) (c : FrameCache) :
    pinCache p fc set c
      = (missing set c.lines).foldl (allocate p fc) { c with lines := pinHeld p fc set c.lines } := rfl

theorem FrameCache.Lawful.pinHeld {c : FrameCache} (h : c.Lawful) (p : Pin) (fc : Word) (set : List PatternIndex) :
    FrameCache.Lawful { c with lines := Machine.pinHeld p fc set c.lines } :=
  h.mapLines (f := pinHeldLine p fc set) (fun x => (sameContents_pinHeldLine p fc set x).state)
    (fun x => (sameContents_pinHeldLine p fc set x).index) fun _ => lineLaw_pinHeldLine

/-- A pin request for distinct indices keeps the laws (R23, R24). -/
theorem FrameCache.Lawful.pinCache {c : FrameCache} (h : c.Lawful) (p : Pin) (fc : Word)
    {set : List PatternIndex} (hset : set.Nodup) : (pinCache p fc set c).Lawful := by
  rw [pinCache_eq]
  refine (h.pinHeld p fc set).foldl_allocate p fc (hset.filter _) fun i hi => ?_
  simpa [any_holds_pinHeld] using (List.mem_filter.1 hi).2

/-! #### What a pin request leaves (R24, R25) -/

/-- An allocation takes no line that is FILLING or carries a pin. -/
theorem allocate_keeps {p : Pin} {fc : Word} {c : FrameCache} {i : PatternIndex} {n : Nat} {x : Line}
    (hx : c.lines[n]? = some x) (hs : x.state ≠ .empty) (hr : reusable x = false) :
    (allocate p fc c i).lines[n]? = some x := by
  unfold allocate
  split
  · exact hx
  next m hm =>
    obtain ⟨y, hy, hfree⟩ := chooseLine_spec hm
    have hne : m ≠ n := by
      rintro rfl
      obtain rfl : y = x := Option.some.inj (hy.symm.trans hx)
      simp [hs, hr] at hfree
    rw [List.getElem?_set_ne hne]
    exact hx

theorem foldl_allocate_keeps {p : Pin} {fc : Word} {c : FrameCache} (is : List PatternIndex) {n : Nat} {x : Line}
    (hx : c.lines[n]? = some x) (hs : x.state ≠ .empty) (hr : reusable x = false) :
    (is.foldl (allocate p fc) c).lines[n]? = some x := by
  induction is generalizing c with
  | nil => exact hx
  | cons i is ih => exact ih (allocate_keeps hx hs hr)

/-- A line that may not be reused may not be after pass 1. -/
theorem reusable_pinHeldLine {p : Pin} {fc : Word} {set : List PatternIndex} {x : Line} (h : reusable x = false) :
    reusable (pinHeldLine p fc set x) = false := by
  have hpin : pinned { addPin p x with lastUse := fc } = true := pinned_addPin p x
  unfold pinHeldLine
  split
  · simp [reusable, hpin]
  · exact h

/-- A line that may not be reused stays where it is, with what it holds. -/
theorem pinCache_keeps {p : Pin} {fc : Word} {c : FrameCache} (set : List PatternIndex) {n : Nat} {x : Line}
    (hx : c.lines[n]? = some x) (hs : x.state ≠ .empty) (hr : reusable x = false) :
    (pinCache p fc set c).lines[n]? = some (pinHeldLine p fc set x) := by
  have hc := sameContents_pinHeldLine p fc set x
  rw [pinCache_eq]
  refine foldl_allocate_keeps _ ?_ (by rwa [hc.state]) (reusable_pinHeldLine hr)
  rw [pinHeld_eq, List.getElem?_map, hx]
  rfl

/-- A line as an allocation leaves it: FILLING with no word read. -/
def JustAllocated (x : Line) : Prop := x.state = .filling ∧ x.wordsRead = 0

/-- The lines after a pin request hold what they held, or have just been allocated. -/
theorem pinCache_cases {p : Pin} {fc : Word} {set : List PatternIndex} {c : FrameCache} {y : Line}
    (hy : y ∈ (pinCache p fc set c).lines) : (∃ x ∈ c.lines, SameContents x y) ∨ JustAllocated y := by
  have along : ∀ (is : List PatternIndex) (c' : FrameCache),
      (∀ z ∈ c'.lines, (∃ x ∈ c.lines, SameContents x z) ∨ JustAllocated z) →
      ∀ z ∈ (is.foldl (allocate p fc) c').lines, (∃ x ∈ c.lines, SameContents x z) ∨ JustAllocated z := by
    intro is
    induction is with
    | nil => exact fun _ h => h
    | cons i is ih =>
      refine fun c' h => ih _ fun z hz => ?_
      unfold allocate at hz
      split at hz
      · exact h z hz
      · obtain hz | rfl := List.mem_or_eq_of_mem_set hz
        · exact h z hz
        · cases p <;> exact .inr ⟨rfl, rfl⟩
  refine along _ _ (fun z hz => ?_) y hy
  obtain ⟨x, hx, rfl⟩ := List.mem_map.1 hz
  exact .inl ⟨x, hx, sameContents_pinHeldLine p fc set x⟩

/-! ### Every change of the cache -/

/-- After a line's pins have changed it is withdrawn, or it holds what it held (R26). -/
theorem withdrawLine_cases (y : Line) : (withdrawLine y).state = .empty ∨ withdrawLine y = y := by
  unfold withdrawLine
  split
  · exact .inl rfl
  · exact .inr rfl

/-- A line after its pins have changed and, FILLING with none left, it has been withdrawn (R26). -/
theorem getElem?_repin {f : Line → Line} {s : State} {n : Nat} {y : Line}
    (hy : (repin f s).cache.lines[n]? = some y) : ∃ x, s.cache.lines[n]? = some x ∧ y = withdrawLine (f x) := by
  have hy' : (s.cache.lines.map fun x => withdrawLine (f x))[n]? = some y := hy
  rw [List.getElem?_map] at hy'
  obtain ⟨x, hx, rfl⟩ := Option.map_eq_some_iff.1 hy'
  exact ⟨x, hx, rfl⟩

/-- New pins with contents kept, and the withdrawals they bring, keep the laws (R22, R25, R26). -/
theorem FrameCache.Lawful.repin {s : State} (h : s.cache.Lawful) {f : Line → Line}
    (hc : ∀ x, SameContents x (f x)) (hpin : ∀ x, pinned (f x) = true → pinned x = true) :
    (repin f s).cache.Lawful := by
  refine h.kept (List.length_map _) fun n y hy => ?_
  obtain ⟨x, hx, rfl⟩ := getElem?_repin (by exact hy)
  exact ⟨x, hx, lineKept_withdrawLine (hc x) (hpin x)⟩

theorem FrameCache.Lawful.aged {s : State} (h : s.cache.Lawful) : (ageLines s).cache.Lawful := by
  refine h.mapLines (f := fun l => if l.current then { l with lastUse := s.scan.frameCounter } else l)
    (fun x => ?_) (fun x => ?_) fun x hx => ?_
  · split <;> rfl
  · split <;> rfl
  · split <;> exact hx

theorem FrameCache.Lawful.moved {s : State} (h : s.cache.Lawful) : (movePins s).cache.Lawful :=
  (h.repin (sameContents_switchPins _) fun _ => pinned_of_switchPins).promoted

/-- The line that follows a host write to word `w` of its record, when it has read that word (R40). -/
def followLine (idx : PatternIndex) (w : Nat) (l : Lanes) (d : Word) (x : Line) : Line :=
  if holds idx x = true ∧ (x.state = .valid ∨ w < x.wordsRead) then placeLanes w l d x else x

theorem followWrite_eq (idx : PatternIndex) (w : Nat) (l : Lanes) (d : Word) (lines : List Line) :
    followWrite idx w l d lines = lines.map (followLine idx w l d) := rfl

theorem lineLaw_placeLanes {w : Nat} {l : Lanes} {d : Word} {x : Line} (h : LineLaw x) (hx : x.state ≠ .empty) :
    LineLaw (placeLanes w l d x) := by
  rw [lineLaw_iff] at h ⊢
  simpa [hx] using h.2

@[simp] theorem followLine_state (idx : PatternIndex) (w : Nat) (l : Lanes) (d : Word) (x : Line) :
    (followLine idx w l d x).state = x.state := by unfold followLine; split <;> simp
@[simp] theorem followLine_index (idx : PatternIndex) (w : Nat) (l : Lanes) (d : Word) (x : Line) :
    (followLine idx w l d x).index = x.index := by unfold followLine; split <;> simp
@[simp] theorem followLine_wordsRead (idx : PatternIndex) (w : Nat) (l : Lanes) (d : Word) (x : Line) :
    (followLine idx w l d x).wordsRead = x.wordsRead := by unfold followLine; split <;> simp

theorem lineLaw_followLine {idx : PatternIndex} {w : Nat} {l : Lanes} {d : Word} {x : Line} (h : LineLaw x) :
    LineLaw (followLine idx w l d x) := by
  unfold followLine
  split
  next hh => exact lineLaw_placeLanes h ((holds_iff idx x).1 hh.1).1
  · exact h

theorem FrameCache.Lawful.followed {c : FrameCache} (h : c.Lawful) (idx : PatternIndex) (w : Nat) (l : Lanes)
    (d : Word) : FrameCache.Lawful { c with lines := followWrite idx w l d c.lines } :=
  h.mapLines (f := followLine idx w l d) (followLine_state idx w l d) (followLine_index idx w l d)
    fun _ => lineLaw_followLine

/-- A read of word 0 fills a line that waits for it, or nothing (R35). -/
theorem readWord0_cases (n : Nat) (idx : PatternIndex) (s : State) :
    readWord0 n idx s = s.withArb { s.arb with port := .free }
      ∨ ∃ x, s.cache.lines[n]? = some x ∧ x.state = .filling ∧ x.wordsRead = 0 ∧
        readWord0 n idx s = (s.withArb { s.arb with port := .free }).withCache { s.cache with
          lines := s.cache.lines.set n
            { placeLanes 0 bothLanes (windowWord s (patternOffset idx 0)) x with wordsRead := 1 } } := by
  unfold readWord0
  dsimp only
  split
  · exact .inl rfl
  next x hx =>
    split
    next hf => exact .inr ⟨x, hx, hf.1, hf.2, rfl⟩
    · exact .inl rfl

/-- A read of word 1 makes a line that waits for it VALID, or does nothing (R36). -/
theorem placeWord1_cases (n : Nat) (idx : PatternIndex) (s : State) :
    placeWord1 n idx s = s.withArb { s.arb with port := .free }
      ∨ ∃ x, s.cache.lines[n]? = some x ∧ x.state = .filling ∧ x.wordsRead = 1 ∧
        placeWord1 n idx s = (s.withArb { s.arb with port := .free }).withCache
          { lines := s.cache.lines.set n (filledLine (windowWord s (patternOffset idx 1)) x),
            fills := s.cache.fills.filter (fun e => e.line ≠ n) } := by
  unfold placeWord1
  dsimp only
  split
  · exact .inl rfl
  next x hx =>
    split
    next hf => exact .inr ⟨x, hx, hf.1, hf.2, rfl⟩
    · exact .inl rfl

theorem FrameCache.Lawful.word0 {c : FrameCache} (h : c.Lawful) {n : Nat} {x : Line} (hx : c.lines[n]? = some x)
    (hf : x.state = .filling) (w : Word) : FrameCache.Lawful { c with
      lines := c.lines.set n { placeLanes 0 bothLanes w x with wordsRead := 1 } } := by
  have hkept : LineKept x { placeLanes 0 bothLanes w x with wordsRead := 1 } := by
    refine .of_same (placeLanes_state ..) (placeLanes_index ..) fun hx => ?_
    have hpin := (((lineLaw_iff x).1 hx).2.1 hf).2
    rw [lineLaw_iff]
    simp [hf]
    exact (pinned_placeLanes 0 bothLanes w x).trans hpin
  obtain ⟨hn, -⟩ := List.getElem?_eq_some_iff.1 hx
  have hfills := h.filter_fills (lines := c.lines.set n { placeLanes 0 bothLanes w x with wordsRead := 1 })
    fun m hm => by
      obtain ⟨y, hy, hyf⟩ := (isFilling_iff _ _).1 hm
      by_cases hmn : m = n
      · exact (isFilling_iff _ _).2 ⟨_, (getElem?_set_iff hn).2 (.inl ⟨hmn, rfl⟩), (placeLanes_state ..).trans hf⟩
      · exact (isFilling_iff _ _).2 ⟨y, (getElem?_set_iff hn).2 (.inr ⟨hmn, hy⟩), hyf⟩
  simpa only [hfills] using h.setLine hx hkept

theorem FrameCache.Lawful.word1 {c : FrameCache} (h : c.Lawful) {n : Nat} {x : Line} (hx : c.lines[n]? = some x)
    (hf : x.state = .filling) (w : Word) : FrameCache.Lawful
      ⟨c.lines.set n (filledLine w x), c.fills.filter (fun e => e.line ≠ n)⟩ := by
  have hkept : LineKept x (filledLine w x) := by
    refine ⟨fun _ => rfl, .inr ⟨by simp [hf], placeLanes_index .., fun hv => ?_⟩⟩
    cases hv
  obtain ⟨hn, -⟩ := List.getElem?_eq_some_iff.1 hx
  have hfills : c.fills.filter (fun e => isFilling (c.lines.set n (filledLine w x)) e.line)
      = c.fills.filter (fun e => e.line ≠ n) := by
    refine List.filter_congr fun e he => ?_
    obtain ⟨y, hy, hyf⟩ := (isFilling_iff _ _).1 ((h.filling _).1 (List.mem_map_of_mem he))
    rw [Bool.eq_iff_iff, isFilling_iff]
    by_cases hen : e.line = n
    · simp [getElem?_set_iff hn, hen, filledLine]
    · simp [getElem?_set_iff hn, hen, hy, hyf]
  simpa only [hfills] using h.setLine hx hkept

/-- Every change of the frame cache keeps its laws. -/
theorem lawful_cacheStep {s t : State} (h : s.cache.Lawful) (hst : CacheStep s t) : t.cache.Lawful := by
  cases hst with
  | reset => exact (cacheLaw_iff State.reset).1 reset_cacheLaw
  | panelReset => exact (cacheLaw_iff State.reset).1 reset_cacheLaw
  | followed off a l d => exact h.followed _ _ _ _
  | pinned p set hset => exact h.pinCache p _ hset
  | unpinned p => exact h.repin (sameContents_dropPin p) fun _ => pinned_of_dropPin
  | aged => exact h.aged
  | switched => exact h.aged.moved
  | word0Read n idx =>
    obtain heq | ⟨x, hx, hf, -, heq⟩ := readWord0_cases n idx s <;> rw [heq]
    · exact h
    · exact h.word0 hx hf _
  | word1Read n idx =>
    obtain heq | ⟨x, hx, hf, -, heq⟩ := placeWord1_cases n idx s <;> rw [heq]
    · exact h
    · exact h.word1 hx hf _

theorem Aside.cache {s t : State} (h : Aside s t) : t.cache = s.cache := by
  cases h with
  | elsewhere _ _ _ _ hcache => exact hcache
  | _ => rfl

/-- Settles O10: the laws are of the frame cache alone, and each of its changes keeps them. -/
theorem cacheStaysLawful : Obligations.CacheStaysLawful := fun _ _ h hst =>
  step_keeps_of_changes (P := CacheLaw)
    (fun s t h ha => (cacheLaw_iff t).2 (ha.cache ▸ (cacheLaw_iff s).1 h))
    (fun s t h hc => (cacheLaw_iff t).2 (lawful_cacheStep ((cacheLaw_iff s).1 h) hc)) h hst

/-! ## The event queue's law -/

/-- Only the write of a one-word cell is marked as replaced. -/
theorem markReplaced_eq_record {c : Cell} {q : PortCycle} {p k : Nat} {d : Word} {r : Bool}
    (h : markReplaced c q = .write (.record p k) d r) : q = .write (.record p k) d r := by
  unfold markReplaced at h
  split at h
  · cases h
  · exact h

/-- Only a fill read is discarded. -/
theorem discardWithdrawn_eq_record {lines : List Line} {q : PortCycle} {p k : Nat} {d : Word} {r : Bool}
    (h : discardWithdrawn lines q = .write (.record p k) d r) : q = .write (.record p k) d r := by
  unfold discardWithdrawn at h
  split at h
  · cases h
  · exact h

theorem recordWriteLaw_iff (s : State) : RecordWriteLaw s ↔ ∀ p k d r, s.arb.port = .write (.record p k) d r →
    s.ws.staging ≠ [] ∧ p = s.queue.prod ∧ k = s.ws.recordProgress := by
  unfold RecordWriteLaw
  split
  next p k d r h =>
    refine ⟨fun hlaw p' k' d' r' hp => ?_, fun hlaw => hlaw p k d r h⟩
    cases h.symm.trans hp
    exact hlaw
  next h => exact ⟨fun _ p k d r hp => absurd hp (h p k d r), fun _ => trivial⟩

/-- The ring positions of the staged events, one by one (R83). -/
theorem positions_iff (s : State) :
    (∀ p ∈ s.ws.staging.zipIdx, p.1.position = (s.queue.prod + p.2) % s.queue.len) ↔
      ∀ i e, s.ws.staging[i]? = some e → e.position = (s.queue.prod + i) % s.queue.len :=
  ⟨fun h i e he => h (e, i) (List.mem_zipIdx_iff_getElem?.2 he),
    fun h p hp => h p.2 p.1 (List.mem_zipIdx_iff_getElem?.1 hp)⟩

/-- The law looks at the queue, the staged events, the record's progress and the record word under way. -/
theorem QueueLaw.congr {s t : State} (h : QueueLaw s) (hqueue : t.queue = s.queue := by rfl)
    (hstaging : t.ws.staging = s.ws.staging := by rfl) (hprogress : t.ws.recordProgress = s.ws.recordProgress := by rfl)
    (hrecord : ∀ p k d r, t.arb.port = .write (.record p k) d r → s.arb.port = .write (.record p k) d r := by
      exact fun _ _ _ _ h => h) : QueueLaw t := by
  obtain ⟨hlo, hhi, hprod, hcons, hstaged, hroom, hpos, hprog, hacc, hrec⟩ := h
  rw [recordWriteLaw_iff] at hrec
  simp only [QueueLaw, staged, recordWriteLaw_iff, hqueue, hstaging, hprogress]
  exact ⟨hlo, hhi, hprod, hcons, hstaged, hroom, hpos, hprog, hacc,
    fun p k d r hp => hrec p k d r (hrecord p k d r hp)⟩

/-- The distance around a ring of `L` positions from `c` to `x`. -/
theorem ring_distance {L c x : Nat} (hc : c < L) (hx : x < L) :
    (x + L - c) % L = if c ≤ x then x - c else x + L - c := by
  split
  · rw [show x + L - c = (x - c) + L by omega, Nat.add_mod_right, Nat.mod_eq_of_lt (by omega)]
  · exact Nat.mod_eq_of_lt (by omega)

/-- The position after `x` in a ring of `L` positions. -/
theorem ring_next {L x : Nat} (hx : x < L) : (x + 1) % L = if x + 1 = L then 0 else x + 1 := by
  split
  next h => rw [h, Nat.mod_self]
  · exact Nat.mod_eq_of_lt (by omega)

/-- A record write that the law lets be under way is the next word of the head staged event's record. -/
theorem QueueLaw.record {s : State} (h : QueueLaw s) {p k : Nat} {d : Word} {r : Bool}
    (hp : s.arb.port = .write (.record p k) d r) :
    s.ws.staging ≠ [] ∧ p = s.queue.prod ∧ k = s.ws.recordProgress := by
  obtain ⟨-, -, -, -, -, -, -, -, -, hrec⟩ := h
  exact (recordWriteLaw_iff s).1 hrec p k d r hp

/-- The record word a grant begins is the next of the head staged event's record (R137). -/
theorem partCycle_record {s : State} {c : PartClass} {p k : Nat} {d : Word} {r : Bool}
    (h : partCycle c s = .write (.record p k) d r) :
    ∃ e es, s.ws.staging = e :: es ∧ p = e.position ∧ k = s.ws.recordProgress := by
  cases c with
  | demand | prefetch =>
    simp only [partCycle, fillCycle] at h
    split at h
    · cases h
    · split at h <;> cases h
  | latch => cases h
  | write =>
    simp only [partCycle, nextWrite] at h
    split at h
    next t d' hn =>
      cases h
      split at hn
      · cases hn
      · cases hn
      · split at hn
        next e es hs => cases hn; exact ⟨e, es, hs, rfl, rfl⟩
        · cases hn
    · cases h

theorem queueLaw_granted {s : State} (h : QueueLaw s) (c : PartClass) : QueueLaw (grantPart c s) := by
  obtain ⟨hlo, hhi, hprod, hcons, hstaged, hroom, hpos, hprog, hacc, -⟩ := h
  refine ⟨hlo, hhi, hprod, hcons, hstaged, hroom, hpos, hprog, hacc, (recordWriteLaw_iff _).2 fun p k d r hp => ?_⟩
  obtain ⟨e, es, hs, rfl, rfl⟩ := partCycle_record (by exact hp : partCycle c s = _)
  have hhead : e.position = (s.queue.prod + 0) % s.queue.len := (positions_iff s).1 hpos 0 e (by rw [hs]; rfl)
  refine ⟨by simp [hs], hhead.trans (Nat.mod_eq_of_lt hprod), rfl⟩

theorem queueLaw_recordWord {s : State} (h : QueueLaw s) {p k : Nat} (d : Word) (hk : k < 3) :
    QueueLaw ((partWritten (.record p k) d s).withWs { s.ws with recordProgress := k + 1 }) := by
  obtain ⟨hlo, hhi, hprod, hcons, hstaged, hroom, hpos, -, hacc, -⟩ := h
  exact ⟨hlo, hhi, hprod, hcons, hstaged, hroom, hpos, by simp; omega, hacc,
    (recordWriteLaw_iff _).2 fun _ _ _ _ hp => by cases hp⟩

/-- P advances over the record just completed (R85). -/
theorem queueLaw_recordDone {s : State} (h : QueueLaw s) {p k : Nat} {d : Word} {r : Bool}
    (hport : s.arb.port = .write (.record p k) d r) :
    QueueLaw (((partWritten (.record p k) d s).withWs
      { s.ws with staging := s.ws.staging.tail, recordProgress := 0 }).withQueue
      { s.queue with prod := (s.queue.prod + 1) % s.queue.len, announce := true }) := by
  obtain ⟨hne, -, -⟩ := h.record hport
  obtain ⟨hlo, hhi, hprod, hcons, hstaged, hroom, hpos, -, hacc, -⟩ := h
  obtain ⟨e, es, hs⟩ := List.exists_cons_of_ne_nil hne
  have hlen : staged s = es.length + 1 := by simp [staged, hs]
  have hnext := ring_next hprod
  have hlt : (s.queue.prod + 1) % s.queue.len < s.queue.len := Nat.mod_lt _ (by omega)
  refine ⟨hlo, hhi, hlt, hcons, ?_, ?_, (positions_iff _).2 fun i x hx => ?_, Nat.zero_le 3, hacc,
    (recordWriteLaw_iff _).2 fun _ _ _ _ hp => by cases hp⟩
  · simp [staged, hs]
    omega
  · simp only [queueCount, ring_distance hcons hprod] at hroom
    simp only [queueCount, staged, State.withQueue_queue, State.withQueue_ws, State.withWs_ws, hs, List.tail_cons,
      ring_distance hcons hlt]
    split at hroom <;> split <;> split at hnext <;> omega
  · have hx' : s.ws.staging[i + 1]? = some x := by simpa [hs] using hx
    have hposx := (positions_iff s).1 hpos (i + 1) x hx'
    simp only [State.withQueue_queue, Nat.mod_add_mod]
    rw [hposx, Nat.add_assoc, Nat.add_comm 1 i]

theorem queueLaw_staged {s : State} (h : QueueLaw s) (e : KeyEvent) (hroom : canReserve s = true) :
    QueueLaw (stage e s) := by
  obtain ⟨hlo, hhi, hprod, hcons, -, -, hpos, hprog, hacc, hrec⟩ := h
  simp only [canReserve, decide_eq_true_eq] at hroom
  have hlen : staged (stage e s) = staged s + 1 := by simp [staged, stage]
  have hcount : queueCount (stage e s).queue = queueCount s.queue := rfl
  refine ⟨hlo, hhi, hprod, hcons, by omega, ?_, (positions_iff _).2 fun i x hx => ?_, hprog, hacc,
    (recordWriteLaw_iff _).2 fun p k d r hp => ?_⟩
  · rw [hcount, hlen]
    exact hroom.1
  · have hx' : (s.ws.staging ++ [stagedEvent e s])[i]? = some x := hx
    rw [List.getElem?_append] at hx'
    split at hx'
    · exact (positions_iff s).1 hpos i x hx'
    next hi =>
      obtain ⟨hi', rfl⟩ := List.getElem?_eq_some_iff.1 hx'
      have hlast : i = staged s := by simp [staged] at hi' hi ⊢; omega
      simp [hlast, stagedEvent, stage]
  · obtain ⟨-, hprod', hk⟩ := (recordWriteLaw_iff s).1 hrec p k d r hp
    exact ⟨by simp [stage], hprod', hk⟩

/-- The consumer index moves at most to P (R87, R89). -/
theorem queueLaw_consumed {s : State} (h : QueueLaw s) {v : Nat}
    (hv : v = s.queue.prod ∨ validConsumer s.queue v = true) :
    QueueLaw (s.withQueue { s.queue with cons := v }) := by
  obtain ⟨hlo, hhi, hprod, hcons, hstaged, hroom, hpos, hprog, hacc, hrec⟩ := h
  have hvalid : v < s.queue.len ∧ consumed s.queue v ≤ queueCount s.queue := by
    obtain rfl | hv := hv
    · exact ⟨hprod, le_rfl⟩
    · simpa [validConsumer] using hv
  obtain ⟨hlt, hle⟩ := hvalid
  refine ⟨hlo, hhi, hprod, hlt, hstaged, ?_, hpos, hprog, hacc, hrec⟩
  simp only [queueCount, consumed, ring_distance hcons hprod, ring_distance hcons hlt] at hroom hle
  have hcount : queueCount { s.queue with cons := v } = if v ≤ s.queue.prod then s.queue.prod - v
      else s.queue.prod + s.queue.len - v := ring_distance hlt hprod
  have hstay : staged (s.withQueue { s.queue with cons := v }) = staged s := rfl
  rw [State.withQueue_queue, hcount, hstay]
  simp only
  split at hroom <;> split at hle <;> split <;> omega

/-- Another length empties the ring, with nothing staged (R91). -/
theorem queueLaw_lengthChanged {s : State} (h : QueueLaw s) {n : Nat} (hs : s.ws.staging = [])
    (hn : n ∈ s.queue.acceptance ∨ (4 ≤ n ∧ n ≤ 32)) :
    QueueLaw (s.withQueue { s.queue with len := n, prod := 0, cons := 0, acceptance := none }) := by
  have hnorecord : ∀ p k d r, s.arb.port ≠ .write (.record p k) d r := fun p k d r hp => (h.record hp).1 hs
  obtain ⟨-, -, -, -, -, -, -, hprog, hacc, -⟩ := h
  obtain ⟨hlo, hhi⟩ : 4 ≤ n ∧ n ≤ 32 := hn.elim (hacc n) id
  refine ⟨hlo, hhi, by simp; omega, by simp; omega, by simp [staged, hs], ?_, (positions_iff _).2 fun i e he => ?_,
    hprog, nofun, (recordWriteLaw_iff _).2 fun p k d r hp => absurd hp (hnorecord p k d r)⟩
  · simp [queueCount, staged, hs]
    omega
  · simp [hs] at he

theorem queueLaw_aside {s t : State} (h : QueueLaw s) (ha : Aside s t) : QueueLaw t := by
  cases ha with
  | elsewhere hbase hheld hport hws hcache hqueue =>
    exact h.congr hqueue (congrArg _ hws) (congrArg _ hws) fun _ _ _ _ hp => hport.symm.trans hp
  | released | updates | stored => exact h.congr
  | announced => exact h
  | freed => exact h.congr (hrecord := nofun)
  | granted c => exact queueLaw_granted h c
  | marked c => exact h.congr (hrecord := fun _ _ _ _ => markReplaced_eq_record)
  | stageWrite => exact h.congr (hrecord := nofun)
  | recordWord p k d r _ hk => exact queueLaw_recordWord h d hk
  | recordDone p k d r hport => exact queueLaw_recordDone h hport
  | staged e hroom => exact queueLaw_staged h e hroom
  | consumed v hv => exact queueLaw_consumed h hv
  | acceptance x hx =>
    obtain ⟨hlo, hhi, hprod, hcons, hstaged, hroom, hpos, hprog, -, hrec⟩ := h
    exact ⟨hlo, hhi, hprod, hcons, hstaged, hroom, hpos, hprog, hx, hrec⟩
  | lengthChanged n hs hn => exact queueLaw_lengthChanged h hs hn

theorem queueLaw_repin {s : State} (h : QueueLaw s) (f : Line → Line) : QueueLaw (repin f s) :=
  h.congr (hrecord := fun _ _ _ _ => discardWithdrawn_eq_record)

theorem queueLaw_panelReset {s : State} (h : QueueLaw s) (hport : s.arb.port = .free) : QueueLaw (resetPanel s) := by
  obtain ⟨hlo, hhi, -⟩ := h
  have hfree : (resetPanel s).arb.port = .free := by simp [resetPanel, hport, discardWithdrawn]
  refine ⟨hlo, hhi, ?_, ?_, Nat.zero_le 4, ?_, nofun, Nat.zero_le 3, nofun,
    (recordWriteLaw_iff _).2 fun p k d r hp => ?_⟩
  · exact Nat.lt_of_lt_of_le (by decide : 0 < 4) hlo
  · exact Nat.lt_of_lt_of_le (by decide : 0 < 4) hlo
  · simp [resetPanel, queuePanelReset, queueCount, staged]
    omega
  · rw [hfree] at hp
    cases hp

theorem queueLaw_cacheStep {s t : State} (h : QueueLaw s) (hc : CacheStep s t) : QueueLaw t := by
  cases hc with
  | reset u => exact reset_queueLaw.congr
  | panelReset hport => exact queueLaw_panelReset h hport
  | followed | pinned | aged => exact h.congr
  | unpinned p => exact queueLaw_repin h (dropPin p)
  | switched => exact (queueLaw_repin (s := ageLines s) h.congr (switchPins s.scan.frameCounter)).congr
  | word0Read n idx =>
    obtain heq | ⟨x, -, -, -, heq⟩ := readWord0_cases n idx s <;> rw [heq] <;> exact h.congr (hrecord := nofun)
  | word1Read n idx =>
    obtain heq | ⟨x, -, -, -, heq⟩ := placeWord1_cases n idx s <;> rw [heq] <;> exact h.congr (hrecord := nofun)

/-! ## What the cache lines have read -/

/-! ### Bytes of words and of segment sets (R39, R155) -/

@[simp] theorem lowByte_joinBytes (h l : Byte) : lowByte (joinBytes h l) = l := by
  rw [lowByte, joinBytes, BitVec.extractLsb'_append_eq_of_add_le (by decide), BitVec.extractLsb'_eq_self]

@[simp] theorem highByte_joinBytes (h l : Byte) : highByte (joinBytes h l) = h := by
  rw [highByte, joinBytes, BitVec.extractLsb'_append_eq_of_le (by decide), BitVec.extractLsb'_eq_self]

@[simp] theorem segByte_joinSegs_zero (b2 b1 b0 : Byte) : segByte (joinSegs b2 b1 b0) 0 = b0 := by
  rw [segByte, joinSegs, BitVec.extractLsb'_append_eq_of_add_le (by decide), BitVec.extractLsb'_eq_self]

@[simp] theorem segByte_joinSegs_one (b2 b1 b0 : Byte) : segByte (joinSegs b2 b1 b0) 1 = b1 := by
  rw [segByte, joinSegs, BitVec.extractLsb'_append_eq_of_le (by decide),
    BitVec.extractLsb'_append_eq_of_add_le (by decide), BitVec.extractLsb'_eq_self]

@[simp] theorem segByte_joinSegs_two (b2 b1 b0 : Byte) : segByte (joinSegs b2 b1 b0) 2 = b2 := by
  rw [segByte, joinSegs, BitVec.extractLsb'_append_eq_of_le (by decide),
    BitVec.extractLsb'_append_eq_of_le (by decide), BitVec.extractLsb'_eq_self]

theorem joinSegs_segByte (b : BitVec 24) : joinSegs (segByte b 2) (segByte b 1) (segByte b 0) = b := by
  rw [joinSegs, segByte, segByte, segByte,
    BitVec.extractLsb'_append_extractLsb'_eq_extractLsb' (start₁ := 8 * 1) (len₁ := 8) rfl,
    BitVec.extractLsb'_append_extractLsb'_eq_extractLsb' (start₁ := 8 * 0) (len₁ := 8) rfl]
  exact BitVec.extractLsb'_eq_self

theorem joinSegs_eq_iff (b2 b1 b0 : Byte) (b : BitVec 24) :
    joinSegs b2 b1 b0 = b ↔ segByte b 2 = b2 ∧ segByte b 1 = b1 ∧ segByte b 0 = b0 := by
  constructor
  · rintro rfl
    simp
  · rintro ⟨rfl, rfl, rfl⟩
    exact joinSegs_segByte b

/-- The byte a line holds of the low lane of word `k` of its record (R39). -/
def lowLane (k : Nat) (x : Line) : Byte := if k = 0 then segByte x.segments 0 else segByte x.segments 2

/-- The byte a line holds of the high lane of word `k` of its record (R39). -/
def highLane (k : Nat) (x : Line) : Byte := if k = 0 then segByte x.segments 1 else x.level

/-- A line holds a word of its record when it holds the bytes of its two lanes. -/
theorem wordHeld_iff (s : State) (x : Line) (k : Nat) : WordHeld s x k ↔
    lowLane k x = byteAt s.mem (windowAddr s (patternOffset x.index k))
      ∧ highLane k x = byteAt s.mem (windowAddr s (patternOffset x.index k) + 1) := by
  obtain ⟨state, idx, words, segs, level, current, next, lastUse⟩ := x
  by_cases hk : k = 0
  · simp [WordHeld, placeLanes, lowLane, highLane, hk, bothLanes, windowWord, wordAt, joinSegs_eq_iff, and_comm]
  · simp [WordHeld, placeLanes, lowLane, highLane, hk, bothLanes, windowWord, wordAt, joinSegs_eq_iff,
      eq_comm (a := level)]

/-- Words 0 and 1 are the two words of a record. -/
theorem lowLane_placeLanes {k w : Nat} (hk : k < 2) (hw : w < 2) (l : Lanes) (d : Word) (x : Line) :
    lowLane k (placeLanes w l d x) = if k = w ∧ l.low = true then lowByte d else lowLane k x := by
  obtain rfl | rfl : k = 0 ∨ k = 1 := by omega
  all_goals obtain rfl | rfl : w = 0 ∨ w = 1 := by omega
  all_goals simp [lowLane, placeLanes]

theorem highLane_placeLanes {k w : Nat} (hk : k < 2) (hw : w < 2) (l : Lanes) (d : Word) (x : Line) :
    highLane k (placeLanes w l d x) = if k = w ∧ l.high = true then highByte d else highLane k x := by
  obtain rfl | rfl : k = 0 ∨ k = 1 := by omega
  all_goals obtain rfl | rfl : w = 0 ∨ w = 1 := by omega
  all_goals simp [highLane, placeLanes]

/-! ### Where the patterns lie in memory (R34, R144, R146) -/

theorem patternOffset_bounds (idx : PatternIndex) {w : Nat} (hw : w < 2) :
    0x400 ≤ patternOffset idx w ∧ patternOffset idx w + 1 ≤ 0xBFF := by
  have := idx.isLt
  unfold patternOffset Config.patternBase
  omega

/-- Two pattern words begin at one offset only if they are one word of one record. -/
theorem patternOffset_inj {i j : PatternIndex} {v w : Nat} (hv : v < 2) (hw : w < 2)
    (h : patternOffset i v = patternOffset j w) : i = j ∧ v = w := by
  unfold patternOffset at h
  exact ⟨BitVec.eq_of_toNat_eq (by omega), by omega⟩

/-- An offset in the pattern area is that of a word of a record. -/
theorem patternOffset_of_even {off : Nat} (hlo : 0x400 ≤ off) (hhi : off ≤ 0xBFF) (heven : off % 2 = 0) :
    patternOffset (BitVec.ofNat 9 ((off - 0x400) / 4)) ((off - 0x400) % 4 / 2) = off := by
  have hlt : (off - 0x400) / 4 < 2 ^ 9 := by omega
  simp only [patternOffset, Config.patternBase, BitVec.toNat_ofNat, Nat.mod_eq_of_lt hlt]
  omega

theorem eq_of_ite_eq {α : Type} {c : Prop} [Decidable c] {x y z : α} (h : (if c then x else y) = z) (hx : x ≠ z) :
    y = z := by
  by_cases hc : c
  · exact absurd ((if_pos hc).symm.trans h) hx
  · exact (if_neg hc).symm.trans h

theorem destinationOfOffset_pattern_iff (reading : Option Purpose) (off off' : Nat) :
    destinationOfOffset reading off = .pattern off' ↔ off' = off ∧ 0x400 ≤ off ∧ off ≤ 0xBFF := by
  constructor
  · unfold destinationOfOffset
    have hwatched : ∀ (c : Prop) [Decidable c], (if c then Destination.watched off else .plain) ≠ .pattern off' := by
      intro c _
      split <;> nofun
    intro h
    iterate 7 replace h := eq_of_ite_eq h nofun
    iterate 2 replace h := eq_of_ite_eq h (hwatched _)
    by_cases hc : 0x400 ≤ off ∧ off ≤ 0xBFF
    · rw [if_pos hc] at h
      cases h
      exact ⟨rfl, hc⟩
    · rw [if_neg hc] at h
      cases h
  · rintro ⟨rfl, hlo, hhi⟩
    unfold destinationOfOffset
    rw [if_neg (by omega), if_neg (by omega), if_neg (by omega), if_neg (by omega), if_neg (by omega),
      if_neg (by omega), if_neg (by omega), if_neg (by omega), if_neg (by omega), if_pos ⟨hlo, hhi⟩]

theorem windowBase_even {s : State} (h : WindowLaw s) : s.pass.windowBase % 2 = 0 := by
  obtain ⟨k, -, hk⟩ := h
  rw [hk, Config.strapStep]
  omega

/-- What a write to the pattern area reaches: a word of a record (R34, R146). -/
theorem destination_eq_pattern {s : State} {a off : Nat} {l : Lanes} (hw : WindowLaw s)
    (h : destination s a l = .pattern off) :
    wordAddr a = windowAddr s (patternOffset (BitVec.ofNat 9 ((off - 0x400) / 4)) ((off - 0x400) % 4 / 2))
      ∧ (off - 0x400) % 4 / 2 < 2 := by
  unfold destination at h
  split at h
  next hc =>
    obtain ⟨rfl, hlo, hhi⟩ := (destinationOfOffset_pattern_iff _ _ _).1 h
    have heven := windowBase_even hw
    rw [patternOffset_of_even hlo hhi (by unfold wordAddr; omega)]
    simp only [windowAddr]
    omega
  · cases h

/-- A write that carries a lane and reaches a word of a record is one to the pattern area (R146). -/
theorem destination_of_patternOffset {s : State} {a w : Nat} {l : Lanes} {idx : PatternIndex}
    (hlanes : carriesLane l = true) (hwd : w < 2)
    (ha : wordAddr a = windowAddr s (patternOffset idx w)) :
    destination s a l = .pattern (patternOffset idx w) := by
  obtain ⟨hlo, hhi⟩ := patternOffset_bounds idx hwd
  have hwindow : inWindow s a = true := by
    simp only [wordAddr, windowAddr] at ha
    rw [inWindow, decide_eq_true_eq, Config.windowSize]
    omega
  have hoff : wordAddr a - s.pass.windowBase = patternOffset idx w := by
    simp only [ha, windowAddr]
    omega
  unfold destination
  rw [hlanes, hwindow, hoff]
  exact (destinationOfOffset_pattern_iff _ _ _).2 ⟨rfl, hlo, by omega⟩

/-! ### Lines that follow memory -/

/-- What a line that follows memory holds, lane by lane. -/
theorem lineFollows_iff (s : State) (x : Line) : LineFollows s x ↔
    (x.state ≠ .empty → ∀ k < 2, (x.state = .valid ∨ k < x.wordsRead) →
      lowLane k x = byteAt s.mem (windowAddr s (patternOffset x.index k))
        ∧ highLane k x = byteAt s.mem (windowAddr s (patternOffset x.index k) + 1)) := by
  simp only [LineFollows, wordHeld_iff]

theorem LineFollows.of_empty {s : State} {x : Line} (h : x.state = .empty) : LineFollows s x :=
  fun hs => absurd h hs

/-- Every pattern word reads in `t` as in `s`. -/
def SamePatterns (s t : State) : Prop := ∀ (idx : PatternIndex) (k : Nat), k < 2 →
  byteAt t.mem (windowAddr t (patternOffset idx k)) = byteAt s.mem (windowAddr s (patternOffset idx k))
  ∧ byteAt t.mem (windowAddr t (patternOffset idx k) + 1) = byteAt s.mem (windowAddr s (patternOffset idx k) + 1)

/-- Contents kept, and the pattern area of memory: the line still follows. -/
theorem LineFollows.of_contents {s t : State} {x y : Line} (h : LineFollows s x) (hc : SameContents x y)
    (hmem : SamePatterns s t) : LineFollows t y := by
  rw [lineFollows_iff] at h ⊢
  rw [hc.state, hc.wordsRead, hc.index]
  intro hs k hk hread
  obtain ⟨hlow, hhigh⟩ := hmem x.index k hk
  have hl : lowLane k y = lowLane k x := by simp only [lowLane, hc.segments]
  have hh : highLane k y = highLane k x := by simp only [highLane, hc.segments, hc.level]
  rw [hlow, hhigh, hl, hh]
  exact h hs k hk hread

theorem SamePatterns.of_mem {s t : State} (hmem : t.mem = s.mem := by rfl)
    (hbase : t.pass.windowBase = s.pass.windowBase := by rfl) : SamePatterns s t := by
  intro idx k _
  simp only [windowAddr, hmem, hbase, and_self]

/-- A store of lanes away from the pattern words leaves them as they were. -/
theorem SamePatterns.of_store {s t : State} {a : Nat} {l : Lanes} {d : Word} (hc : MemoryCanonical s)
    (hmem : t.mem = putLanes s.mem a l d) (hbase : t.pass.windowBase = s.pass.windowBase)
    (hapart : carriesLane l = true → ∀ (idx : PatternIndex) (k : Nat), k < 2 →
      windowAddr s (patternOffset idx k) + 1 < a ∨ a + 1 < windowAddr s (patternOffset idx k)) :
    SamePatterns s t := by
  intro idx k hk
  have haddr : windowAddr t (patternOffset idx k) = windowAddr s (patternOffset idx k) := by
    simp only [windowAddr, hbase]
  rw [haddr, hmem, byteAt_putLanes hc, byteAt_putLanes hc]
  by_cases hl : carriesLane l = true
  · have hne := hapart hl idx k hk
    constructor
    all_goals rw [if_neg (by omega), if_neg (by omega)]
  · simp only [carriesLane, Bool.or_eq_true, not_or] at hl
    simp [hl]

/-- A write of the write stage reaches no pattern (R135). -/
theorem samePatterns_partWritten {s : State} (hc : MemoryCanonical s) {t : WriteTarget}
    (ht : targetOffset t + 2 ≤ Config.patternBase) (d : Word) : SamePatterns s (partWritten t d s) := by
  refine .of_store (a := windowAddr s (targetOffset t)) (l := bothLanes) (d := d) hc rfl rfl
    fun _ idx k hk => .inr ?_
  have hlo := (patternOffset_bounds idx hk).1
  simp only [windowAddr, Config.patternBase] at ht ⊢
  show s.pass.windowBase + targetOffset t + 1 < _
  omega

/-- A host write that goes to no pattern reaches none (R146). -/
theorem samePatterns_storeHost {s : State} (hc : MemoryCanonical s) (hw : WindowLaw s) {a : Nat} {l : Lanes}
    (hdst : ∀ off, destination s a l ≠ .pattern off) (d : Word) : SamePatterns s (storeHost a l d s) := by
  refine .of_store hc rfl rfl fun hl idx k hk => ?_
  have hne : wordAddr a ≠ windowAddr s (patternOffset idx k) := fun ha =>
    hdst _ (destination_of_patternOffset hl hk ha)
  have heven := windowBase_even hw
  simp only [wordAddr, windowAddr, patternOffset, Config.patternBase] at hne ⊢
  omega

/-! ### The laws the lines' law rests on -/

theorem memoryCanonical_aside {s t : State} (h : MemoryCanonical s) (ha : Aside s t) : MemoryCanonical t := by
  cases ha with
  | elsewhere _ _ _ _ _ _ hmem => rwa [MemoryCanonical, hmem]
  | stageWrite | recordWord | recordDone => exact memoryCanonical_storeTarget (s := s.withArb _) h _ _
  | stored => exact memoryCanonical_storeHost h _ _ _
  | _ => exact h

theorem mem_readWord0 (n : Nat) (idx : PatternIndex) (s : State) : (readWord0 n idx s).mem = s.mem := by
  obtain heq | ⟨x, -, -, -, heq⟩ := readWord0_cases n idx s <;> rw [heq] <;> rfl

theorem mem_placeWord1 (n : Nat) (idx : PatternIndex) (s : State) : (placeWord1 n idx s).mem = s.mem := by
  obtain heq | ⟨x, -, -, -, heq⟩ := placeWord1_cases n idx s <;> rw [heq] <;> rfl

theorem memoryCanonical_cacheStep {s t : State} (h : MemoryCanonical s) (hc : CacheStep s t) :
    MemoryCanonical t := by
  cases hc with
  | reset u _ hmem => exact hmem h
  | followed off a l d => exact memoryCanonical_storeHost (s := s.withCache _) h a l d
  | word0Read n idx => rwa [MemoryCanonical, mem_readWord0]
  | word1Read n idx => rwa [MemoryCanonical, mem_placeWord1]
  | _ => exact h

theorem windowLaw_aside {s t : State} (h : WindowLaw s) (ha : Aside s t) : WindowLaw t := by
  cases ha with
  | elsewhere hbase => rwa [WindowLaw, hbase]
  | released straps => exact ⟨straps.toNat, straps.isLt, rfl⟩
  | _ => exact h

theorem pass_readWord0 (n : Nat) (idx : PatternIndex) (s : State) : (readWord0 n idx s).pass = s.pass := by
  obtain heq | ⟨x, -, -, -, heq⟩ := readWord0_cases n idx s <;> rw [heq] <;> rfl

theorem pass_placeWord1 (n : Nat) (idx : PatternIndex) (s : State) : (placeWord1 n idx s).pass = s.pass := by
  obtain heq | ⟨x, -, -, -, heq⟩ := placeWord1_cases n idx s <;> rw [heq] <;> rfl

theorem windowLaw_cacheStep {s t : State} (h : WindowLaw s) (hc : CacheStep s t) : WindowLaw t := by
  cases hc with
  | reset u hbase =>
    obtain ⟨k, hk, hs⟩ := h
    exact ⟨k, hk, hbase.trans hs⟩
  | word0Read n idx => rwa [WindowLaw, pass_readWord0]
  | word1Read n idx => rwa [WindowLaw, pass_placeWord1]
  | _ => exact h

/-! #### The targets of the write stage (R135, R137) -/

theorem portTargetLaw_iff (s : State) : PortTargetLaw s ↔
    ∀ t d r, s.arb.port = .write t d r → targetOffset t + 2 ≤ Config.patternBase := by
  unfold PortTargetLaw
  split
  next t d r h =>
    refine ⟨fun hlaw t' d' r' hp => ?_, fun hlaw => hlaw t d r h⟩
    cases h.symm.trans hp
    exact hlaw
  next h => exact ⟨fun _ t d r hp => absurd hp (h t d r), fun _ => trivial⟩

theorem markReplaced_eq_write {c : Cell} {q : PortCycle} {t : WriteTarget} {d : Word} {r : Bool}
    (h : markReplaced c q = .write t d r) : ∃ r', q = .write t d r' := by
  unfold markReplaced at h
  split at h
  · cases h
    exact ⟨_, rfl⟩
  · exact ⟨r, h⟩

theorem discardWithdrawn_eq_write {lines : List Line} {q : PortCycle} {t : WriteTarget} {d : Word} {r : Bool}
    (h : discardWithdrawn lines q = .write t d r) : q = .write t d r := by
  unfold discardWithdrawn at h
  split at h
  · cases h
  · exact h

/-- The write that a grant begins is of a one-word cell, of the next of the status record's words, or of the next of
the head staged event's (R137). -/
theorem partCycle_write {s : State} {c : PartClass} {t : WriteTarget} {d : Word} {r : Bool}
    (h : partCycle c s = .write t d r) : (∃ c', t = .cell c')
      ∨ (∃ c' q k, ⟨c', .status q k⟩ ∈ s.ws.updates ∧ t = .status k)
      ∨ ∃ e es, s.ws.staging = e :: es ∧ t = .record e.position s.ws.recordProgress := by
  cases c with
  | demand | prefetch =>
    simp only [partCycle, fillCycle] at h
    split at h
    · cases h
    · split at h <;> cases h
  | latch => cases h
  | write =>
    simp only [partCycle, nextWrite] at h
    split at h
    next hn =>
      cases h
      split at hn
      · cases hn
        exact .inl ⟨_, rfl⟩
      next hus =>
        cases hn
        exact .inr (.inl ⟨_, _, _, hus ▸ List.mem_cons_self, rfl⟩)
      · split at hn
        next e es hs => cases hn; exact .inr (.inr ⟨e, es, hs, rfl⟩)
        · cases hn
    · cases h

/-- The write stage's law looks at the port and the update list. -/
theorem StageTargetsLaw.congr {s t : State} (h : StageTargetsLaw s) (hus : t.ws.updates = s.ws.updates := by rfl)
    (hport : ∀ w d r, t.arb.port = .write w d r → ∃ r', s.arb.port = .write w d r' := by
      exact fun _ _ r h => ⟨r, h⟩) : StageTargetsLaw t := by
  obtain ⟨hp, hwords⟩ := h
  rw [portTargetLaw_iff] at hp
  refine ⟨(portTargetLaw_iff t).2 fun w d r hw => ?_, hus ▸ hwords⟩
  obtain ⟨r', hw'⟩ := hport w d r hw
  exact hp w d r' hw'

theorem stageTargetsLaw_granted {s : State} (h : StageTargetsLaw s) (hq : QueueLaw s) (c : PartClass) :
    StageTargetsLaw (grantPart c s) := by
  refine ⟨(portTargetLaw_iff _).2 fun t d r hw => ?_, h.2⟩
  obtain ⟨c', rfl⟩ | ⟨c', q, k, hmem, rfl⟩ | ⟨e, es, hs, rfl⟩ := partCycle_write (by exact hw : partCycle c s = _)
  · cases c' <;> decide
  · have hk : k ≤ 3 := h.2 _ hmem
    simp only [targetOffset, Config.patternBase]
    omega
  · obtain ⟨hlo, hhi, hprod, -, -, -, hpos, hprog, -⟩ := hq
    have hhead := (positions_iff s).1 hpos 0 e (by rw [hs]; rfl)
    have hlt : e.position < s.queue.len := hhead ▸ Nat.mod_lt _ (by omega)
    simp only [targetOffset, Config.patternBase, Config.ringBase]
    omega

theorem stageTargetsLaw_aside {s t : State} (h : StageTargetsLaw s) (hq : QueueLaw s) (ha : Aside s t) :
    StageTargetsLaw t := by
  cases ha with
  | elsewhere _ _ hport hws => exact h.congr (congrArg _ hws) fun _ _ r hw => ⟨r, hport.symm.trans hw⟩
  | freed | stageWrite | recordWord | recordDone => exact h.congr (hport := nofun)
  | granted c => exact stageTargetsLaw_granted h hq c
  | marked c => exact h.congr (hport := fun _ _ _ => markReplaced_eq_write)
  | updates us hus => exact ⟨h.1, hus h.2⟩
  | _ => exact h.congr

theorem stageTargetsLaw_repin {s : State} (h : StageTargetsLaw s) (f : Line → Line) : StageTargetsLaw (repin f s) :=
  h.congr (hport := fun _ _ r hw => ⟨r, discardWithdrawn_eq_write hw⟩)

theorem stageTargetsLaw_cacheStep {s t : State} (h : StageTargetsLaw s) (hc : CacheStep s t) :
    StageTargetsLaw t := by
  cases hc with
  | reset u => exact ⟨trivial, nofun⟩
  | panelReset => exact h.congr (hport := fun _ _ r hw => ⟨r, discardWithdrawn_eq_write hw⟩)
  | followed | pinned | aged => exact h.congr
  | unpinned p => exact stageTargetsLaw_repin h (dropPin p)
  | switched => exact (stageTargetsLaw_repin (s := ageLines s) h.congr (switchPins s.scan.frameCounter)).congr
  | word0Read n idx =>
    obtain heq | ⟨x, -, -, -, heq⟩ := readWord0_cases n idx s <;> rw [heq] <;> exact h.congr (hport := nofun)
  | word1Read n idx =>
    obtain heq | ⟨x, -, -, -, heq⟩ := placeWord1_cases n idx s <;> rw [heq] <;> exact h.congr (hport := nofun)

/-! #### The fill read under way (R34, R38) -/

theorem fillReadLaw_iff (s : State) : FillReadLaw s ↔ ∀ n idx w, s.arb.port = .fill n idx w false →
    ∃ x, s.cache.lines[n]? = some x ∧ x.state = .filling ∧ x.index = idx ∧ x.wordsRead = w := by
  unfold FillReadLaw
  split
  next n idx w hport =>
    refine ⟨fun hlaw n' idx' w' hp => ?_, fun hlaw => ?_⟩
    · cases hport.symm.trans hp
      split at hlaw
      next x hx => exact ⟨x, hx, hlaw⟩
      · exact hlaw.elim
    · obtain ⟨x, hx, hlaw⟩ := hlaw n idx w hport
      rwa [hx]
  next hno => exact ⟨fun _ n idx w hp => absurd hp (hno n idx w), fun _ => trivial⟩

/-- The law looks at the port and at FILLING lines. -/
theorem FillReadLaw.congr {s t : State} (h : FillReadLaw s)
    (hport : ∀ n idx w, t.arb.port = .fill n idx w false → s.arb.port = .fill n idx w false := by
      exact fun _ _ _ h => h)
    (hlines : ∀ (n : Nat) (x : Line), s.cache.lines[n]? = some x → x.state = .filling →
      ∃ y, t.cache.lines[n]? = some y ∧ y.state = x.state ∧ y.index = x.index ∧ y.wordsRead = x.wordsRead := by
        exact fun _ x hx _ => ⟨x, hx, rfl, rfl, rfl⟩) :
    FillReadLaw t := by
  rw [fillReadLaw_iff] at h ⊢
  intro n idx w hp
  obtain ⟨x, hx, hf, hi, hw⟩ := h n idx w (hport n idx w hp)
  obtain ⟨y, hy, hs', hi', hw'⟩ := hlines n x hx hf
  exact ⟨y, hy, hs'.trans hf, hi'.trans hi, hw'.trans hw⟩

theorem markReplaced_eq_fill {c : Cell} {q : PortCycle} {n w : Nat} {idx : PatternIndex} {b : Bool}
    (h : markReplaced c q = .fill n idx w b) : q = .fill n idx w b := by
  unfold markReplaced at h
  split at h
  · cases h
  · exact h

/-- A fill read not discarded is of a line still FILLING (R38). -/
theorem discardWithdrawn_eq_fill {lines : List Line} {q : PortCycle} {n w : Nat} {idx : PatternIndex}
    (h : discardWithdrawn lines q = .fill n idx w false) : q = .fill n idx w false ∧ isFilling lines n = true := by
  unfold discardWithdrawn at h
  split at h
  · simp only [PortCycle.fill.injEq, Bool.or_eq_false_iff, Bool.not_eq_false'] at h
    obtain ⟨rfl, rfl, rfl, rfl, hf⟩ := h
    exact ⟨rfl, hf⟩
  next hno => exact absurd h (hno n idx w false)

/-- The fill read that a grant begins is of the next word of the head entry's record (R34). -/
theorem partCycle_fill {s : State} {c : PartClass} {n w : Nat} {idx : PatternIndex}
    (h : partCycle c s = .fill n idx w false) :
    ∃ e es x, s.cache.fills = e :: es ∧ s.cache.lines[n]? = some x ∧ n = e.line ∧ x.index = idx
      ∧ x.wordsRead = w := by
  cases c with
  | demand | prefetch =>
    simp only [partCycle, fillCycle] at h
    split at h
    · cases h
    next e es hes =>
      split at h
      next x hx => cases h; exact ⟨e, es, x, hes, hx, rfl, rfl, rfl⟩
      · cases h
  | latch => cases h
  | write =>
    simp only [partCycle] at h
    split at h <;> cases h

theorem fillReadLaw_granted {s : State} (hc : CacheLaw s) (c : PartClass) : FillReadLaw (grantPart c s) := by
  refine (fillReadLaw_iff _).2 fun n idx w hp => ?_
  obtain ⟨e, es, x, hes, hx, rfl, hi, hw⟩ := partCycle_fill (by exact hp : partCycle c s = _)
  have hmem : e.line ∈ s.cache.fills.map FillEntry.line := by simp [hes]
  obtain ⟨y, hy, hf⟩ := (isFilling_iff _ _).1 ((((cacheLaw_iff s).1 hc).filling _).1 hmem)
  obtain rfl : x = y := Option.some.inj (hx.symm.trans hy)
  exact ⟨x, hx, hf, hi, hw⟩

theorem fillReadLaw_aside {s t : State} (h : FillReadLaw s) (hc : CacheLaw s) (ha : Aside s t) :
    FillReadLaw t := by
  cases ha with
  | elsewhere _ _ hport _ hcache =>
    exact h.congr (fun _ _ _ hp => hport.symm.trans hp) fun _ x hx _ => ⟨x, hcache ▸ hx, rfl, rfl, rfl⟩
  | freed | stageWrite | recordWord | recordDone => exact h.congr (hport := nofun)
  | granted c => exact fillReadLaw_granted hc c
  | marked c => exact h.congr (hport := fun _ _ _ => markReplaced_eq_fill)
  | _ => exact h.congr

/-- Lines changed one by one keep their places. -/
theorem getElem?_map_of_some {lines : List Line} (f : Line → Line) {n : Nat} {x : Line} (hx : lines[n]? = some x) :
    (lines.map f)[n]? = some (f x) := by rw [List.getElem?_map, hx]; rfl

theorem fillReadLaw_repin {s : State} (h : FillReadLaw s) {f : Line → Line} (hf : ∀ x, SameContents x (f x)) :
    FillReadLaw (repin f s) := by
  rw [fillReadLaw_iff] at h ⊢
  intro n idx w hp
  obtain ⟨hport, hfill⟩ := discardWithdrawn_eq_fill (by exact hp : discardWithdrawn _ s.arb.port = _)
  obtain ⟨x, hx, hxf, hi, hw⟩ := h n idx w hport
  obtain ⟨y, hy, hyf⟩ := (isFilling_iff _ _).1 hfill
  obtain ⟨x', hx', rfl⟩ := getElem?_repin (by exact hy)
  obtain rfl : x = x' := Option.some.inj (hx.symm.trans hx')
  obtain he | heq := withdrawLine_cases (f x)
  · rw [he] at hyf
    cases hyf
  · rw [heq] at hy
    exact ⟨f x, hy, (hf x).state.trans hxf, (hf x).index.trans hi, (hf x).wordsRead.trans hw⟩

theorem sameContents_ageLine (fc : Word) (x : Line) :
    SameContents x (if x.current then { x with lastUse := fc } else x) := by
  split <;> exact ⟨rfl, rfl, rfl, rfl, rfl⟩

theorem fillReadLaw_ageLines {s : State} (h : FillReadLaw s) : FillReadLaw (ageLines s) :=
  h.congr (hlines := fun _ x hx _ =>
    have hc := sameContents_ageLine s.scan.frameCounter x
    ⟨_, getElem?_map_of_some _ hx, hc.state, hc.index, hc.wordsRead⟩)

theorem fillReadLaw_cacheStep {s t : State} (h : FillReadLaw s) (hc : CacheStep s t) : FillReadLaw t := by
  cases hc with
  | reset u => trivial
  | panelReset hport =>
    exact (fillReadLaw_iff _).2 fun n idx w hp => by simp [resetPanel, hport, discardWithdrawn] at hp
  | followed off a l d hdst =>
    exact h.congr (hlines := fun n x hx _ => ⟨_, getElem?_map_of_some _ hx, followLine_state .., followLine_index ..,
      followLine_wordsRead ..⟩)
  | pinned p set =>
    exact h.congr (hlines := fun n x hx hf =>
      have hc := sameContents_pinHeldLine p s.scan.frameCounter set x
      ⟨_, pinCache_keeps set hx (by simp [hf]) (by simp [reusable, hf]), hc.state, hc.index, hc.wordsRead⟩)
  | unpinned p => exact fillReadLaw_repin h (sameContents_dropPin p)
  | aged => exact fillReadLaw_ageLines h
  | switched => exact (fillReadLaw_repin (fillReadLaw_ageLines h) (sameContents_switchPins s.scan.frameCounter)).congr
  | word0Read n idx =>
    obtain heq | ⟨x, -, -, -, heq⟩ := readWord0_cases n idx s <;> rw [heq] <;>
      exact (fillReadLaw_iff _).2 nofun
  | word1Read n idx =>
    obtain heq | ⟨x, -, -, -, heq⟩ := placeWord1_cases n idx s <;> rw [heq] <;>
      exact (fillReadLaw_iff _).2 nofun

/-! #### While RESET is held (R148) -/

/-- While RESET is held the port is free, the latch IDLE and every line EMPTY. -/
def HeldLaw (s : State) : Prop := s.pass.resetHeld = true →
  s.arb.port = .free ∧ s.latch.progress = .idle ∧ ∀ x ∈ s.cache.lines, x.state = .empty

theorem heldLaw_aside {s t : State} (h : HeldLaw s) (ha : Aside s t) : HeldLaw t := by
  cases ha with
  | elsewhere _ hheld hport _ hcache _ _ hlatch =>
    intro ht
    have hs := hheld.symm.trans ht
    obtain ⟨hfree, hidle, hempty⟩ := h hs
    exact ⟨hport.trans hfree, hlatch hs hidle, hcache ▸ hempty⟩
  | released => exact nofun
  | granted c hdecide =>
    intro ht
    have hs : s.pass.resetHeld = true := ht
    simp [canDecide, hs] at hdecide
  | marked c =>
    intro ht
    obtain ⟨hfree, hidle, hempty⟩ := h ht
    exact ⟨by simp [hfree, markReplaced], hidle, hempty⟩
  | freed | stageWrite | recordWord | recordDone => exact fun ht => ⟨rfl, (h ht).2⟩
  | _ => exact h

theorem heldLaw_repin {s : State} (h : HeldLaw s) {f : Line → Line} (hf : ∀ x, SameContents x (f x)) :
    HeldLaw (repin f s) := by
  intro ht
  obtain ⟨hfree, hidle, hempty⟩ := h ht
  refine ⟨?_, hidle, fun y hy => ?_⟩
  · show discardWithdrawn _ s.arb.port = .free
    rw [hfree]
    rfl
  · obtain ⟨n, hn⟩ := List.mem_iff_getElem?.1 hy
    obtain ⟨x, hx, rfl⟩ := getElem?_repin hn
    obtain he | heq := withdrawLine_cases (f x)
    · exact he
    · rw [heq, (hf x).state, hempty x (List.mem_of_getElem? hx)]

/-- Lines changed one by one with their states kept stay EMPTY. -/
theorem heldLaw_mapLines {s t : State} (h : HeldLaw s) {f : Line → Line} (hf : ∀ x, (f x).state = x.state)
    (hlines : t.cache.lines = s.cache.lines.map f) (hpass : t.pass = s.pass) (harb : t.arb = s.arb)
    (hlatch : t.latch = s.latch) : HeldLaw t := by
  intro ht
  obtain ⟨hfree, hidle, hempty⟩ := h (hpass ▸ ht)
  refine ⟨harb ▸ hfree, hlatch ▸ hidle, fun y hy => ?_⟩
  rw [hlines] at hy
  obtain ⟨x, hx, rfl⟩ := List.mem_map.1 hy
  exact (hf x).trans (hempty x hx)

theorem heldLaw_ageLines {s : State} (h : HeldLaw s) : HeldLaw (ageLines s) :=
  heldLaw_mapLines h (fun x => (sameContents_ageLine s.scan.frameCounter x).state) rfl rfl rfl rfl

/-- No fill read is under way while RESET is held. -/
theorem HeldLaw.not_held_of_fill {s : State} (h : HeldLaw s) {n w : Nat} {idx : PatternIndex} {b : Bool}
    (hp : s.arb.port = .fill n idx w b) : s.pass.resetHeld = false := by
  cases hs : s.pass.resetHeld with
  | false => rfl
  | true => cases hp.symm.trans (h hs).1

theorem heldLaw_cacheStep {s t : State} (h : HeldLaw s) (hc : CacheStep s t) : HeldLaw t := by
  cases hc with
  | reset u => exact fun _ => ⟨rfl, rfl, fun x hx => by rw [List.eq_of_mem_replicate hx]; rfl⟩
  | panelReset hport =>
    exact fun _ => ⟨by simp [resetPanel, hport, discardWithdrawn], rfl,
      fun x hx => by rw [List.eq_of_mem_replicate hx]; rfl⟩
  | followed off a l d => exact heldLaw_mapLines h (followLine_state _ _ l d) rfl rfl rfl rfl
  | pinned p set _ hfree =>
    intro ht
    have hs : s.pass.resetHeld = true := ht
    obtain hfree | hfree := hfree
    · cases hs.symm.trans hfree
    · exact absurd (h hs).2.1 hfree
  | unpinned p => exact heldLaw_repin h (sameContents_dropPin p)
  | aged => exact heldLaw_ageLines h
  | switched => exact heldLaw_repin (heldLaw_ageLines h) (sameContents_switchPins s.scan.frameCounter)
  | word0Read n idx hp =>
    intro ht
    rw [pass_readWord0, h.not_held_of_fill hp] at ht
    cases ht
  | word1Read n idx hp =>
    intro ht
    rw [pass_placeWord1, h.not_held_of_fill hp] at ht
    cases ht

/-! ### Every change keeps the lines following memory -/

/-- The laws of `CacheFollowsMemory`, with memory's canonical form. -/
structure CacheFollows (s : State) : Prop where
  canonical : MemoryCanonical s
  queue : QueueLaw s
  cache : CacheLaw s
  window : WindowLaw s
  targets : StageTargetsLaw s
  fillRead : FillReadLaw s
  held : HeldLaw s
  lines : ∀ x ∈ s.cache.lines, LineFollows s x

theorem cacheFollows_iff (s : State) : CacheFollows s ↔ MemoryCanonical s ∧ CacheFollowsMemory s :=
  ⟨fun h => ⟨h.canonical, h.queue, h.cache, h.window, h.targets, h.fillRead, h.held, h.lines⟩,
    fun ⟨hm, hq, hc, hw, ht, hf, hh, hl⟩ => ⟨hm, hq, hc, hw, ht, hf, hh, hl⟩⟩

/-- The lines go on following memory where the patterns in memory stay, and each line holds what some line held,
or is EMPTY, or has just been allocated. -/
theorem linesFollow_of_kept {s t : State} (h : ∀ x ∈ s.cache.lines, LineFollows s x) (hmem : SamePatterns s t)
    (hlines : ∀ y ∈ t.cache.lines, (∃ x ∈ s.cache.lines, SameContents x y) ∨ y.state = .empty ∨ JustAllocated y) :
    ∀ y ∈ t.cache.lines, LineFollows t y := by
  intro y hy
  obtain ⟨x, hx, hc⟩ | he | ⟨hf, hw⟩ := hlines y hy
  · exact (h x hx).of_contents hc hmem
  · exact .of_empty he
  · intro _ k _ hread
    simp [hf, hw] at hread

theorem linesFollow_aside {s t : State} (h : CacheFollows s) (ha : Aside s t) :
    ∀ x ∈ t.cache.lines, LineFollows t x := by
  have hsame : ∀ y ∈ t.cache.lines, (∃ x ∈ s.cache.lines, SameContents x y) ∨ y.state = .empty ∨ JustAllocated y :=
    fun y hy => .inl ⟨y, ha.cache ▸ hy, .refl y⟩
  have htarget := (portTargetLaw_iff s).1 h.targets.1
  cases ha with
  | elsewhere hbase _ _ _ _ _ hmem => exact linesFollow_of_kept h.lines (.of_mem hmem hbase) hsame
  | released straps hheld => exact fun x hx => .of_empty ((h.held hheld).2.2 x hx)
  | stageWrite w d r hp =>
    exact linesFollow_of_kept h.lines (samePatterns_partWritten h.canonical (htarget _ _ _ hp) d) hsame
  | recordWord p k d r hp =>
    exact linesFollow_of_kept h.lines (samePatterns_partWritten h.canonical (htarget _ _ _ hp) d) hsame
  | recordDone p k d r hp =>
    exact linesFollow_of_kept h.lines (samePatterns_partWritten h.canonical (htarget _ _ _ hp) d) hsame
  | stored a l d hdst =>
    obtain hheld | hdst := hdst
    · exact fun x hx => .of_empty ((h.held hheld).2.2 x hx)
    · exact linesFollow_of_kept h.lines (samePatterns_storeHost h.canonical h.window hdst d) hsame
  | _ => exact linesFollow_of_kept h.lines .of_mem hsame

/-- A line that holds the record written follows the write, and every other keeps what it holds (R40). -/
theorem lineFollows_followLine {s : State} (hc : MemoryCanonical s) {idx : PatternIndex} {w : Nat} (hw : w < 2)
    {a : Nat} (ha : wordAddr a = windowAddr s (patternOffset idx w)) (l : Lanes) (d : Word) {x : Line}
    (h : LineFollows s x) {t : State} (hmem : t.mem = putLanes s.mem (wordAddr a) l d)
    (hbase : t.pass.windowBase = s.pass.windowBase) : LineFollows t (followLine idx w l d x) := by
  rw [lineFollows_iff] at h ⊢
  rw [followLine_state, followLine_index, followLine_wordsRead]
  intro hs k hk hread
  obtain ⟨hlow, hhigh⟩ := h hs k hk hread
  have haddr : ∀ off, windowAddr t off = windowAddr s off := fun off => by simp only [windowAddr, hbase]
  rw [haddr, hmem, byteAt_putLanes hc, byteAt_putLanes hc, ha]
  by_cases hword : x.index = idx ∧ k = w
  · obtain ⟨rfl, rfl⟩ := hword
    rw [followLine, if_pos ⟨(holds_iff _ _).2 ⟨hs, rfl⟩, hread⟩, lowLane_placeLanes hk hk, highLane_placeLanes hk hk,
      hlow, hhigh]
    simp
  · have hne : patternOffset x.index k ≠ patternOffset idx w := fun heq => hword (patternOffset_inj hk hw heq)
    have hlanes : lowLane k (followLine idx w l d x) = lowLane k x
        ∧ highLane k (followLine idx w l d x) = highLane k x := by
      unfold followLine
      split
      next hh =>
        have hkw : k ≠ w := fun hkw => hword ⟨((holds_iff idx x).1 hh.1).2, hkw⟩
        simp [lowLane_placeLanes hk hw, highLane_placeLanes hk hw, hkw]
      · exact ⟨rfl, rfl⟩
    rw [hlanes.1, hlanes.2, hlow, hhigh]
    have hapart : windowAddr s (patternOffset x.index k) ≠ windowAddr s (patternOffset idx w)
        ∧ windowAddr s (patternOffset x.index k) ≠ windowAddr s (patternOffset idx w) + 1
        ∧ windowAddr s (patternOffset x.index k) + 1 ≠ windowAddr s (patternOffset idx w) := by
      simp only [windowAddr, patternOffset] at hne ⊢
      omega
    obtain ⟨h₁, h₂, h₃⟩ := hapart
    simp [h₁, h₂, h₃]

theorem linesFollow_followed {s : State} (h : CacheFollows s) {off a : Nat} {l : Lanes} (d : Word)
    (hdst : destination s a l = .pattern off) :
    ∀ x ∈ (writePattern off a l d s).cache.lines, LineFollows (writePattern off a l d s) x := by
  obtain ⟨ha, hw⟩ := destination_eq_pattern h.window hdst
  intro y hy
  obtain ⟨x, hx, rfl⟩ := List.mem_map.1 hy
  exact lineFollows_followLine h.canonical hw ha l d (h.lines x hx) rfl rfl

/-- The lines after new pins hold what they held, or are EMPTY. -/
theorem repin_cases {f : Line → Line} (hf : ∀ x, SameContents x (f x)) {s : State} {y : Line}
    (hy : y ∈ (repin f s).cache.lines) : (∃ x ∈ s.cache.lines, SameContents x y) ∨ y.state = .empty := by
  obtain ⟨n, hn⟩ := List.mem_iff_getElem?.1 hy
  obtain ⟨x, hx, rfl⟩ := getElem?_repin hn
  obtain he | heq := withdrawLine_cases (f x)
  · exact .inr he
  · exact .inl ⟨x, List.mem_of_getElem? hx, by rw [heq]; exact hf x⟩

theorem linesFollow_ageLines {s : State} (h : ∀ x ∈ s.cache.lines, LineFollows s x) :
    ∀ x ∈ (ageLines s).cache.lines, LineFollows (ageLines s) x := by
  refine linesFollow_of_kept h .of_mem fun y hy => ?_
  obtain ⟨x, hx, rfl⟩ := List.mem_map.1 hy
  exact .inl ⟨x, hx, sameContents_ageLine s.scan.frameCounter x⟩

theorem linesFollow_repin {s : State} (h : ∀ x ∈ s.cache.lines, LineFollows s x) {f : Line → Line}
    (hf : ∀ x, SameContents x (f x)) : ∀ x ∈ (repin f s).cache.lines, LineFollows (repin f s) x :=
  linesFollow_of_kept h .of_mem fun _ hy => (repin_cases hf hy).imp_right .inl

/-- A line takes the word of its own record that a fill read has read, the next after those it held (R35, R36). -/
theorem lineFollows_wordRead {s t : State} (hmem : SamePatterns s t) {x y : Line} (h : LineFollows s x)
    (hs : x.state ≠ .empty) {w : Nat} (hw : w < 2) (hwords : x.wordsRead = w) (hi : y.index = x.index)
    (hlanes : ∀ k, lowLane k y = lowLane k (placeLanes w bothLanes (windowWord s (patternOffset x.index w)) x)
      ∧ highLane k y = highLane k (placeLanes w bothLanes (windowWord s (patternOffset x.index w)) x))
    (hread : ∀ k < 2, (y.state = .valid ∨ k < y.wordsRead) → k ≤ w) : LineFollows t y := by
  rw [lineFollows_iff] at h ⊢
  intro _ k hk hky
  obtain ⟨hlow, hhigh⟩ := hmem x.index k hk
  obtain ⟨hl, hh⟩ := hlanes k
  rw [hi, hlow, hhigh, hl, hh, lowLane_placeLanes hk hw, highLane_placeLanes hk hw]
  by_cases hkw : k = w
  · subst hkw
    simp [bothLanes, windowWord, wordAt]
  · have hlt : k < x.wordsRead := by
      have := hread k hk hky
      omega
    simpa [hkw] using h hs k hk (.inr hlt)

/-- One line changed to one that follows memory, the others as they were. -/
theorem linesFollow_of_set {s t : State} (h : ∀ x ∈ s.cache.lines, LineFollows s x) (hmem : SamePatterns s t) {n : Nat}
    {y : Line} (hlines : t.cache.lines = s.cache.lines.set n y) (hy : LineFollows t y) :
    ∀ x ∈ t.cache.lines, LineFollows t x := by
  intro x hx
  rw [hlines] at hx
  obtain hx | rfl := List.mem_or_eq_of_mem_set hx
  · exact (h x hx).of_contents (.refl x) hmem
  · exact hy

theorem linesFollow_word0 {s : State} (h : CacheFollows s) {n : Nat} {idx : PatternIndex}
    (hp : s.arb.port = .fill n idx 0 false) :
    ∀ x ∈ (readWord0 n idx s).cache.lines, LineFollows (readWord0 n idx s) x := by
  obtain ⟨x, hx, hf, rfl, hw⟩ := (fillReadLaw_iff s).1 h.fillRead n idx 0 hp
  obtain heq | ⟨x', hx', -, -, heq⟩ := readWord0_cases n x.index s
  · rw [heq]
    exact linesFollow_of_kept h.lines .of_mem fun y hy => .inl ⟨y, hy, .refl y⟩
  · obtain rfl : x = x' := Option.some.inj (hx.symm.trans hx')
    have hfollows := h.lines x (List.mem_of_getElem? hx)
    rw [heq]
    refine linesFollow_of_set h.lines .of_mem rfl (lineFollows_wordRead .of_mem hfollows (by simp [hf])
      Nat.zero_lt_two hw
      (placeLanes_index ..) (fun _ => ⟨rfl, rfl⟩) fun k _ hk => ?_)
    simp [hf] at hk
    omega

theorem linesFollow_word1 {s : State} (h : CacheFollows s) {n : Nat} {idx : PatternIndex}
    (hp : s.arb.port = .fill n idx 1 false) :
    ∀ x ∈ (placeWord1 n idx s).cache.lines, LineFollows (placeWord1 n idx s) x := by
  obtain ⟨x, hx, hf, rfl, hw⟩ := (fillReadLaw_iff s).1 h.fillRead n idx 1 hp
  obtain heq | ⟨x', hx', -, -, heq⟩ := placeWord1_cases n x.index s
  · rw [heq]
    exact linesFollow_of_kept h.lines .of_mem fun y hy => .inl ⟨y, hy, .refl y⟩
  · obtain rfl : x = x' := Option.some.inj (hx.symm.trans hx')
    have hfollows := h.lines x (List.mem_of_getElem? hx)
    rw [heq]
    exact linesFollow_of_set h.lines .of_mem rfl (lineFollows_wordRead .of_mem hfollows (by simp [hf]) Nat.one_lt_two hw
      (placeLanes_index ..) (fun _ => ⟨rfl, rfl⟩) fun k hk _ => Nat.le_of_lt_succ hk)

theorem linesFollow_cacheStep {s t : State} (h : CacheFollows s) (hc : CacheStep s t) :
    ∀ x ∈ t.cache.lines, LineFollows t x := by
  cases hc with
  | reset u => exact fun x hx => .of_empty (by rw [List.eq_of_mem_replicate hx]; rfl)
  | panelReset => exact fun x hx => .of_empty (by rw [List.eq_of_mem_replicate hx]; rfl)
  | followed off a l d hdst => exact linesFollow_followed h d hdst
  | pinned p set => exact linesFollow_of_kept h.lines .of_mem fun _ hy => (pinCache_cases hy).imp_right .inr
  | unpinned p => exact linesFollow_repin h.lines (sameContents_dropPin p)
  | aged => exact linesFollow_ageLines h.lines
  | switched => exact linesFollow_repin (linesFollow_ageLines h.lines) (sameContents_switchPins s.scan.frameCounter)
  | word0Read n idx hp => exact linesFollow_word0 h hp
  | word1Read n idx hp => exact linesFollow_word1 h hp

theorem cacheFollows_aside {s t : State} (h : CacheFollows s) (ha : Aside s t) : CacheFollows t where
  canonical := memoryCanonical_aside h.canonical ha
  queue := queueLaw_aside h.queue ha
  cache := (cacheLaw_iff t).2 (ha.cache ▸ (cacheLaw_iff s).1 h.cache)
  window := windowLaw_aside h.window ha
  targets := stageTargetsLaw_aside h.targets h.queue ha
  fillRead := fillReadLaw_aside h.fillRead h.cache ha
  held := heldLaw_aside h.held ha
  lines := linesFollow_aside h ha

theorem cacheFollows_cacheStep {s t : State} (h : CacheFollows s) (hc : CacheStep s t) : CacheFollows t where
  canonical := memoryCanonical_cacheStep h.canonical hc
  queue := queueLaw_cacheStep h.queue hc
  cache := (cacheLaw_iff t).2 (lawful_cacheStep ((cacheLaw_iff s).1 h.cache) hc)
  window := windowLaw_cacheStep h.window hc
  targets := stageTargetsLaw_cacheStep h.targets hc
  fillRead := fillReadLaw_cacheStep h.fillRead hc
  held := heldLaw_cacheStep h.held hc
  lines := linesFollow_cacheStep h hc

/-- Settles O11: the law and what it rests on are kept by each change of the cache and each change beside it. -/
theorem cacheFollowsPatternArea : Obligations.CacheFollowsPatternArea := fun s t hm h hst =>
  ((cacheFollows_iff t).1 (step_keeps_of_changes (fun _ _ => cacheFollows_aside) (fun _ _ => cacheFollows_cacheStep)
    ((cacheFollows_iff s).2 ⟨hm, h⟩) hst)).2

/-! ## Fill reads (R35 to R38) -/

theorem readWord0_of_filling {s : State} {n : Nat} {x : Line} (idx : PatternIndex) (hx : s.cache.lines[n]? = some x)
    (hf : x.state = .filling) (hw : x.wordsRead = 0) :
    readWord0 n idx s = (portFreed s).withCache { s.cache with
      lines := s.cache.lines.set n
        { placeLanes 0 bothLanes (windowWord s (patternOffset idx 0)) x with wordsRead := 1 } } := by
  simp only [readWord0, hx, hf, hw, and_self, if_true]
  rfl

theorem placeWord1_of_filling {s : State} {n : Nat} {x : Line} (idx : PatternIndex)
    (hx : s.cache.lines[n]? = some x) (hf : x.state = .filling) (hw : x.wordsRead = 1) :
    placeWord1 n idx s = (portFreed s).withCache
      { lines := s.cache.lines.set n (filledLine (windowWord s (patternOffset idx 1)) x),
        fills := s.cache.fills.filter (fun e => e.line ≠ n) } := by
  simp only [placeWord1, hx, hf, hw, and_self, if_true]
  rfl

/-- Settles O46: the word is placed in the line that waits for it; a withdrawn read frees the port. -/
theorem fillWordZeroPlacesSegments : Obligations.FillWordZeroPlacesSegments := by
  intro s n idx x w
  refine ⟨fun hp hx hf hw hword => ?_, fun k hp => ?_⟩
  · have hread : exec .fillWord0Read s = .next (readWord0 n idx s) := by
      simp only [exec, execFillWord0Read, hp]
    rw [hread, readWord0_of_filling idx hx hf hw, hword]
    rfl
  · simp only [exec, execFillReadDiscarded, hp]
    rfl

theorem currentResident_iff (s : State) : currentResident s = true ↔
    s.scan.state = .starting ∧ s.scan.table ≠ [] ∧ ∀ y ∈ s.cache.lines, y.current = true → y.state = .valid := by
  simp [currentResident, resident, hasPin, and_assoc, imp_iff_not_or]

theorem nextResident_iff (s : State) : nextResident s = true ↔
    s.switch.state = .preparing ∧ ∀ y ∈ s.cache.lines, y.next = true → y.state = .valid := by
  simp [nextResident, resident, hasPin, imp_iff_not_or]

theorem reportCurrent_of_not {s : State} (h : ¬ (s.scan.state = .starting ∧ s.scan.table ≠ []
    ∧ ∀ y ∈ s.cache.lines, y.current = true → y.state = .valid)) : reportCurrent s = s :=
  if_neg fun hc => h ((currentResident_iff s).1 hc)

theorem reportNext_of_not {s : State} (h : ¬ (s.switch.state = .preparing
    ∧ ∀ y ∈ s.cache.lines, y.next = true → y.state = .valid)) : reportNext s = s :=
  if_neg fun hc => h ((nextResident_iff s).1 hc)

/-- A word 1 read is the word placed, then the reports of the line's pins (R36, R37). -/
theorem readWord1_eq {s : State} {n : Nat} {x : Line} (idx : PatternIndex) (hx : s.cache.lines[n]? = some x) :
    readWord1 n idx s =
      if x.current then reportCurrent (if x.next then reportNext (placeWord1 n idx s) else placeWord1 n idx s)
      else if x.next then reportNext (placeWord1 n idx s) else placeWord1 n idx s := by
  simp only [readWord1, lineHasPin, hx, hasPin]

/-- Settles O47: the line is VALID, and then come the reports its pins ask for. -/
theorem fillWordOneMakesLineValid : Obligations.FillWordOneMakesLineValid := by
  intro s u n idx x w hp hx hf hw hword hu
  have hplaced : placeWord1 n idx s = u := by
    rw [placeWord1_of_filling idx hx hf hw, hu, hword]
    rfl
  have hscan : u.scan = s.scan := by rw [hu]; rfl
  have hswitch : u.switch = s.switch := by rw [hu]; rfl
  have hread : exec .fillWord1Read s = .next (readWord1 n idx s) := by
    simp only [exec, execFillWord1Read, hp]
  have hnext : ¬ (s.switch.state = .preparing ∧ x.next = true
      ∧ ∀ y ∈ u.cache.lines, y.next = true → y.state = .valid) → (if x.next then reportNext u else u) = u := by
    intro h
    split
    next hxn => exact reportNext_of_not fun ⟨hprep, hres⟩ => h ⟨hswitch ▸ hprep, hxn, hres⟩
    · rfl
  rw [hread, readWord1_eq idx hx, hplaced]
  refine ⟨fun hnc hnn => ?_, fun hst htab hxc hres hnone => ?_, fun hprep hxn hres hnst => ?_⟩
  · rw [hnext hnn]
    split
    next hxc => rw [reportCurrent_of_not fun ⟨hst, htab, hres⟩ => hnc ⟨hscan ▸ hst, hscan ▸ htab, hxc, hres⟩]
    · rfl
  · have hresident : currentResident u = true := (currentResident_iff u).2 ⟨hscan ▸ hst, hscan ▸ htab, hres⟩
    have hbegins : exec .runningBegins s = .next (readWord1 n idx s) := by
      simp only [exec, execRunningBegins, hp, hplaced, if_pos hresident]
    rw [hbegins, readWord1_eq idx hx, hplaced, hnext fun h => by simp [hnone] at h, if_pos hxc, reportCurrent,
      if_pos hresident]
    subst hu
    exact ⟨rfl, rfl⟩
  · have hresident : nextResident u = true := (nextResident_iff u).2 ⟨hswitch ▸ hprep, hres⟩
    have hready : exec .nextFrameReady s = .next (readWord1 n idx s) := by
      simp only [exec, execNextFrameReady, hp, hplaced, if_pos hresident]
    have hreport : reportNext u = u.withSwitch { s.switch with state := .ready } := by
      rw [reportNext, if_pos hresident, hswitch]
    have hcurrent : reportCurrent (reportNext u) = reportNext u :=
      reportCurrent_of_not fun h => hnst (by simpa [hscan] using h.1)
    rw [hready, readWord1_eq idx hx, hplaced, if_pos hxn, hcurrent, ite_self, hreport]
    exact ⟨rfl, rfl⟩

/-! ## Writes to the pattern area (R40) -/

/-- Settles O27: the granted write is stored, and each line follows it by itself. -/
theorem patternWriteIsFollowed : Obligations.PatternWriteIsFollowed := by
  intro s a l d off hw
  have hkind : isPatternWrite a l d s = true := by simp only [isPatternWrite, hw.2]
  have htaken : exec .patternWrite s = .next (writePattern off a l d (grantHost s)) := by
    simp only [exec, execPatternWrite, takeRow_of_writeGranted hw hkind, takeWrite, destination_grantHost, hw.2]
  refine ⟨_, htaken, rfl, by simp [writePattern, followWrite_eq], fun n x hx => ?_⟩
  have hline := getElem?_map_of_some
    (followLine (BitVec.ofNat 9 ((off - 0x400) / 4)) ((off - 0x400) % 4 / 2) l d) hx
  refine hline.trans (congrArg some ?_)
  have hidx : x.index = BitVec.ofNat 9 ((off - 0x400) / 4) ↔ x.index.toNat = (off - 0x400) / 4 % 512 := by
    rw [← BitVec.toNat_inj, BitVec.toNat_ofNat]
  simp only [followLine, holds_iff, hidx, and_assoc, placeLanes]

/-! ## Removing a pin (R26, R28, R31) -/

/-- Settles O49: the line loses the pin, and is withdrawn when it fills for no other. -/
theorem pinRemovalWithdraws : Obligations.PinRemovalWithdraws := by
  intro s p n x hs hx
  have hline : (removePins p s).cache.lines[n]? = some (withdrawLine (dropPin p x)) :=
    getElem?_map_of_some (fun x => withdrawLine (dropPin p x)) hx
  have hfills : ∀ e, e.line = n → (e ∈ (removePins p s).cache.fills ↔
      e ∈ s.cache.fills ∧ (withdrawLine (dropPin p x)).state = .filling) := by
    rintro e rfl
    refine List.mem_filter.trans (and_congr_right fun _ => ?_)
    exact (isFilling_iff _ _).trans
      ⟨fun ⟨y, hy, hf⟩ => Option.some.inj (hline.symm.trans hy) ▸ hf, fun hf => ⟨_, hline, hf⟩⟩
  have hlisted : ∀ e ∈ s.cache.fills, e.line = n → x.state = .filling := by
    rintro e he rfl
    obtain ⟨y, hy, hf⟩ := (isFilling_iff _ _).1 ((((cacheLaw_iff s).1 hs).filling _).1 (List.mem_map_of_mem he))
    exact Option.some.inj (hx.symm.trans hy) ▸ hf
  have hsame := sameContents_dropPin p x
  refine ⟨fun hkept => ?_, fun hf hlast => ?_⟩
  · have hstays : withdrawLine (dropPin p x) = dropPin p x := by
      refine if_neg fun ⟨hf, hpin⟩ => ?_
      rw [hsame.state] at hf
      obtain h | ⟨rfl, h⟩ | ⟨rfl, h⟩ := hkept
      · exact h hf
      · simp [dropPin, pinned, h] at hpin
      · simp [dropPin, pinned, h] at hpin
    refine ⟨hline.trans ?_, fun e he => (hfills e he).trans ?_⟩
    · rw [hstays]
      cases p <;> rfl
    · rw [hstays, hsame.state]
      exact ⟨And.left, fun hmem => ⟨hmem, hlisted e hmem he⟩⟩
  · have hpin : pinned (dropPin p x) = false := by
      obtain ⟨rfl, h⟩ | ⟨rfl, h⟩ := hlast <;> simp [dropPin, pinned, h]
    have hgone : withdrawLine (dropPin p x) = ⟨.empty, 0, 0, 0, 0, false, false, x.lastUse⟩ := by
      rw [withdrawLine, if_pos ⟨hsame.state.trans hf, hpin⟩]
      cases p <;> rfl
    have hnot : isFilling (removePins p s).cache.lines n = false := by
      simp only [isFilling, hline, hgone]
      rfl
    refine ⟨hline.trans (congrArg some hgone), fun e he hn => ?_, fun idx k wd hp => ?_⟩
    · have hstate := ((hfills e hn).1 he).2
      rw [hgone] at hstate
      cases hstate
    · have hport : (removePins p s).arb.port = discardWithdrawn (removePins p s).cache.lines s.arb.port := rfl
      rw [hport, hp, discardWithdrawn, hnot]
      simp

/-! ## Promotion (R33) -/

theorem map_demand {fs : List FillEntry} (h : ∀ e ∈ fs, e.cls = .demand) :
    fs.map (fun e => (⟨e.line, .demand⟩ : FillEntry)) = fs :=
  (List.map_congr_left fun e he => by rw [← h e he]; rfl).trans (List.map_id _)

/-- The entries of the new frame's lines after a switch: those that were DEMAND, then those that were PREFETCH. -/
theorem fills_switched {s : State} (hs : CacheLaw s) :
    (movePins (atBoundary s)).cache.fills =
      s.cache.fills.filter (fun e => e.cls = .demand ∧ s.cache.lines[e.line]?.any (fun x => x.next) = true)
      ++ (s.cache.fills.filter (fun e =>
          e.cls = .prefetch ∧ s.cache.lines[e.line]?.any (fun x => x.next) = true)).map
            (fun e => ⟨e.line, .demand⟩) := by
  have hord := ((cacheLaw_iff s).1 hs).ordered.filter (fun e => s.cache.lines[e.line]?.any (fun x => x.next))
  rw [fills_movePins_atBoundary hs, ← demand_append_prefetch hord, List.map_append, map_demand fun e he => by
    simpa using (List.mem_filter.1 he).2, List.filter_filter, List.filter_filter]
  simp only [Bool.decide_and, Bool.decide_eq_true]

/-- A line of the next frame after the switch: it carries CURRENT, and holds what it held (R30). -/
theorem line_switched {s : State} {n : Nat} {x : Line} (hx : s.cache.lines[n]? = some x) (hn : x.next = true) :
    (movePins (atBoundary s)).cache.lines[n]?
      = some { x with current := true, next := false, lastUse := s.scan.frameCounter + 1 } := by
  rw [lines_movePins_atBoundary, List.getElem?_map, hx]
  simp [hn]

theorem lawful_switched {s : State} (hs : CacheLaw s) : (movePins (atBoundary s)).cache.Lawful := by
  have h : (s.withScan (boundaryEngine s.scan)).cache.Lawful := (cacheLaw_iff s).1 hs
  exact h.aged.moved

/-- With no host cycle waiting, a DEMAND entry at the head of the list is granted its line's next word (R34, R151). -/
theorem arbiterDecision_of_demand {u : State} {n : Nat} {y : Line} {es : List FillEntry}
    (hheld : u.pass.resetHeld = false) (hwait : u.pass.waiting = none) (hport : u.arb.port = .free)
    (hfills : u.cache.fills = ⟨n, .demand⟩ :: es) (hy : u.cache.lines[n]? = some y) :
    exec .arbiterDecision u = .next (u.withArb { u.arb with
      starveCounter := 0, port := .fill n y.index y.wordsRead false }) := by
  have hgrant : hostGrant u = none := by simp [hostGrant, hwait]
  have hdecide : canDecide u = true := by simp [canDecide, hheld, hport]
  have hfirst : firstPart u = some .demand := by simp [firstPart, fillWaits, hfills]
  have hcycle : fillCycle u = .fill n y.index y.wordsRead false := by simp [fillCycle, hfills, hy]
  simp only [exec, execArbiterDecision, decidePort, hgrant, hdecide, hfirst, if_true, grantPart, partCycle, hcycle]

/-- An entry that is DEMAND keeps that class while it is in the list. -/
def DemandStays (c c' : FrameCache) : Prop :=
  ∀ e ∈ c.fills, e.cls = .demand → ∀ e' ∈ c'.fills, e'.line = e.line → e'.cls = .demand

/-- No entry of a line that had one is new. -/
theorem FrameCache.Lawful.demandStays {c c' : FrameCache} (h : c.Lawful)
    (hfills : ∀ e' ∈ c'.fills, e' ∈ c.fills ∨ e'.cls = .demand ∨ isFilling c.lines e'.line = false) :
    DemandStays c c' := by
  intro e he hd e' he' hline
  obtain hmem | hd' | hfree := hfills e' he'
  · rw [List.inj_on_of_nodup_map h.once hmem he hline, hd]
  · exact hd'
  · rw [hline, (h.filling _).1 (List.mem_map_of_mem he)] at hfree
    cases hfree

theorem isFilling_allocate {p : Pin} {fc : Word} {c : FrameCache} {i : PatternIndex} {n : Nat}
    (h : isFilling c.lines n = true) : isFilling (allocate p fc c i).lines n = true := by
  obtain ⟨x, hx, hf⟩ := (isFilling_iff _ _).1 h
  exact (isFilling_iff _ _).2 ⟨x, allocate_keeps hx (by simp [hf]) (by simp [reusable, hf]), hf⟩

/-- An entry that a pin request adds is of a line that was not FILLING (R25). -/
theorem mem_fills_foldl_allocate {p : Pin} {fc : Word} {c : FrameCache} {is : List PatternIndex} {e : FillEntry}
    (he : e ∈ (is.foldl (allocate p fc) c).fills) : e ∈ c.fills ∨ isFilling c.lines e.line = false := by
  induction is generalizing c with
  | nil => exact .inl he
  | cons i is ih =>
    obtain he | hfree := ih he
    · unfold allocate at he
      split at he
      · exact .inl he
      next n hn =>
        obtain rfl | he := List.mem_cons.1 ((joinFills_perm _ _).mem_iff.1 he)
        · exact .inr (not_filling_of_chooseLine hn)
        · exact .inl he
    · exact .inr (Bool.eq_false_iff.2 fun hf => by simp [isFilling_allocate hf] at hfree)

theorem isFilling_pinHeld (p : Pin) (fc : Word) (set : List PatternIndex) (lines : List Line) (n : Nat) :
    isFilling (pinHeld p fc set lines) n = isFilling lines n := by
  rw [pinHeld_eq, isFilling, isFilling, List.getElem?_map]
  cases lines[n]? with
  | none => rfl
  | some x => simp [(sameContents_pinHeldLine p fc set x).state]

theorem mem_promoteFills {lines : List Line} {fs : List FillEntry} {e : FillEntry}
    (he : e ∈ promoteFills lines fs) : e ∈ fs ∨ e.cls = .demand := by
  obtain he | he := List.mem_append.1 he
  · obtain he | he := List.mem_append.1 he
    · exact .inl (List.mem_filter.1 he).1
    · obtain ⟨e, -, rfl⟩ := List.mem_map.1 he
      exact .inr rfl
  · exact .inl (List.mem_filter.1 he).1

theorem demandStays_cacheStep {s t : State} (h : s.cache.Lawful) (hc : CacheStep s t) :
    DemandStays s.cache t.cache := by
  cases hc with
  | reset | panelReset => exact fun _ _ _ => nofun
  | followed | aged => exact h.demandStays fun _ he => .inl he
  | pinned p set =>
    refine h.demandStays fun e he => (mem_fills_foldl_allocate he).imp_right fun hfree => .inr ?_
    exact (isFilling_pinHeld p s.scan.frameCounter set s.cache.lines e.line).symm.trans hfree
  | unpinned p => exact h.demandStays fun _ he => .inl (List.mem_filter.1 he).1
  | switched =>
    exact h.demandStays fun _ he =>
      (mem_promoteFills he).imp (fun he => (List.mem_filter.1 he).1) fun hd => .inl hd
  | word0Read n idx =>
    obtain heq | ⟨x, -, -, -, heq⟩ := readWord0_cases n idx s <;> rw [heq] <;>
      exact h.demandStays fun _ he => .inl he
  | word1Read n idx =>
    obtain heq | ⟨x, -, -, -, heq⟩ := placeWord1_cases n idx s <;> rw [heq]
    · exact h.demandStays fun _ he => .inl he
    · exact h.demandStays fun _ he => .inl (List.mem_filter.1 he).1

theorem AsideRun.cache {s t : State} (h : AsideRun s t) : t.cache = s.cache := by
  induction h with
  | refl => rfl
  | tail _ hc ih => exact hc.cache.trans ih

/-- Of the changes a happening is made of at most one is of the cache, so no entry leaves and comes back. -/
theorem demandStays_happening {s t : State} (hs : CacheLaw s) (hh : Happening s t) :
    DemandStays s.cache t.cache := by
  have hlaw := (cacheLaw_iff s).1 hs
  obtain ⟨u, v, hu, hstep, hv⟩ := hh.course
  rw [hv.cache]
  rw [← hu.cache] at hlaw ⊢
  obtain rfl | hstep := hstep
  · exact hlaw.demandStays fun _ he => .inl he
  · exact demandStays_cacheStep hlaw hstep

/-- Settles O60: the boundary moves pins and entries; in every other happening too an entry's class stays. -/
theorem promotedFillsStayDemand : Obligations.PromotedFillsStayDemand := by
  intro s hs
  refine ⟨fun hdue hsw => ?_, fun c t hst => demandStays_happening hs (.of_exec hst)⟩
  have hcache : (takeBoundary s).cache = (movePins (atBoundary s)).cache :=
    (takeBoundary_of_due hsw).cache.trans (switchFrames_cache _ _ _)
  refine ⟨takeBoundary s, exec_frameBoundary hdue, by rw [hcache, fills_switched hs], fun n x hx hf hn => ?_⟩
  have hline := line_switched hx hn
  have hfilling : isFilling (movePins (atBoundary s)).cache.lines n = true := (isFilling_iff _ _).2 ⟨_, hline, hf⟩
  rw [hcache]
  refine ⟨List.mem_map.1 (((lawful_switched hs).filling n).2 hfilling), _, hline, hf, rfl, rfl, rfl, ?_⟩
  intro u es hlines hfills hheld hwait hport
  have hgranted := arbiterDecision_of_demand hheld hwait hport hfills (hlines ▸ hline)
  exact hgranted

/-! ## Pin requests (R24, R25) -/

/-! ### An index at a time -/

theorem missing_append (is js : List PatternIndex) (lines : List Line) :
    missing (is ++ js) lines = missing is lines ++ missing js lines := List.filter_append ..

theorem missing_pinHeld (p : Pin) (fc : Word) (is js : List PatternIndex) (lines : List Line) :
    missing is (pinHeld p fc js lines) = missing is lines := by
  simp only [missing, any_holds_pinHeld]

theorem missing_singleton (i : PatternIndex) (lines : List Line) :
    missing [i] lines = if lines.any (holds i) then [] else [i] := by
  cases h : lines.any (holds i) <;> simp [missing, h]

theorem pinHeldLine_of_mem {p : Pin} {fc : Word} {set : List PatternIndex} {x : Line}
    (h : x.state ≠ .empty ∧ x.index ∈ set) : pinHeldLine p fc set x = { addPin p x with lastUse := fc } := if_pos h

theorem pinHeldLine_of_not_mem {p : Pin} {fc : Word} {set : List PatternIndex} {x : Line}
    (h : ¬ (x.state ≠ .empty ∧ x.index ∈ set)) : pinHeldLine p fc set x = x := if_neg h

/-- A line pinned and dated already is as it would be. -/
theorem pinHeldLine_of_dated (p : Pin) (fc : Word) (set : List PatternIndex) (x : Line) :
    pinHeldLine p fc set { addPin p x with lastUse := fc } = { addPin p x with lastUse := fc } := by
  unfold pinHeldLine
  split
  · cases p <;> rfl
  · rfl

/-- Two requests in pass 1 are one for both sets. -/
theorem pinHeld_pinHeld (p : Pin) (fc : Word) (is js : List PatternIndex) (lines : List Line) :
    pinHeld p fc is (pinHeld p fc js lines) = pinHeld p fc (is ++ js) lines := by
  rw [pinHeld_eq, pinHeld_eq, pinHeld_eq, List.map_map]
  refine List.map_congr_left fun x _ => ?_
  by_cases hj : x.state ≠ .empty ∧ x.index ∈ js
  · rw [Function.comp, pinHeldLine_of_mem hj, pinHeldLine_of_dated,
      pinHeldLine_of_mem ⟨hj.1, List.mem_append_right is hj.2⟩]
  · rw [Function.comp, pinHeldLine_of_not_mem hj]
    refine if_congr ?_ rfl rfl
    rw [List.mem_append]
    tauto

/-- Pass 1 for an index that no line holds does nothing. -/
theorem pinHeld_of_not_held (p : Pin) (fc : Word) {i : PatternIndex} {lines : List Line}
    (h : lines.any (holds i) = false) : pinHeld p fc [i] lines = lines := by
  rw [pinHeld_eq]
  refine (List.map_congr_left fun x hx => ?_).trans (List.map_id _)
  refine if_neg fun ⟨hs, hi⟩ => ?_
  have hheld := List.any_eq_true.2 ⟨x, hx, (holds_iff i x).2 ⟨hs, List.mem_singleton.1 hi⟩⟩
  rw [h] at hheld
  cases hheld

theorem pinCache_nil (p : Pin) (fc : Word) (c : FrameCache) : pinCache p fc [] c = c := by
  have hlines : pinHeld p fc [] c.lines = c.lines :=
    (List.map_congr_left fun x _ => if_neg (by simp)).trans (List.map_id _)
  rw [pinCache_eq, hlines]
  rfl

theorem pinCache_held (p : Pin) (fc : Word) {c : FrameCache} {i : PatternIndex} (h : c.lines.any (holds i) = true) :
    pinCache p fc [i] c = { c with lines := pinHeld p fc [i] c.lines } := by
  rw [pinCache_eq, missing_singleton, if_pos h]
  rfl

theorem pinCache_not_held (p : Pin) (fc : Word) {c : FrameCache} {i : PatternIndex}
    (h : c.lines.any (holds i) = false) : pinCache p fc [i] c = allocate p fc c i := by
  rw [pinCache_eq, missing_singleton, h, pinHeld_of_not_held p fc h]
  rfl

/-- The held indices of a set are taken first. -/
theorem pinCache_append_held (p : Pin) (fc : Word) {c : FrameCache} (set : List PatternIndex) {i : PatternIndex}
    (h : c.lines.any (holds i) = true) : pinCache p fc (set ++ [i]) c = pinCache p fc set (pinCache p fc [i] c) := by
  rw [pinCache_held p fc h, pinCache_eq, pinCache_eq, missing_append, missing_singleton, if_pos h, List.append_nil]
  simp only [missing_pinHeld, pinHeld_pinHeld]

theorem any_holds_foldl_allocate {p : Pin} {fc : Word} {c : FrameCache} {is : List PatternIndex} {j : PatternIndex}
    (h : (is.foldl (allocate p fc) c).lines.any (holds j) = true) : c.lines.any (holds j) = true ∨ j ∈ is := by
  induction is generalizing c with
  | nil => exact .inl h
  | cons i is ih =>
    obtain h | h := ih h
    · exact (any_holds_allocate h).imp_right fun hj => List.mem_cons.2 (.inl hj)
    · exact .inr (List.mem_cons_of_mem i h)

/-- The indices that no line holds are taken in the set's order. -/
theorem pinCache_append_not_held (p : Pin) (fc : Word) {c : FrameCache} {set : List PatternIndex} {i : PatternIndex}
    (hi : i ∉ set) (h : c.lines.any (holds i) = false) :
    pinCache p fc (set ++ [i]) c = pinCache p fc [i] (pinCache p fc set c) := by
  have hset : (pinCache p fc set c).lines.any (holds i) = false := by
    rw [← Bool.not_eq_true]
    intro hheld
    obtain hheld | hmem := any_holds_foldl_allocate hheld
    · simp [any_holds_pinHeld, h] at hheld
    · exact hi (List.mem_filter.1 hmem).1
  have hlines : pinHeld p fc (set ++ [i]) c.lines = pinHeld p fc set c.lines := by
    rw [← pinHeld_pinHeld, pinHeld_of_not_held p fc h]
  rw [pinCache_not_held p fc hset, pinCache_eq, pinCache_eq, hlines, missing_append, missing_singleton, h,
    List.foldl_append]
  rfl

/-! ### The line an allocation chooses (R25) -/

theorem age_eq_ageAt (fc : Word) (x : Line) : age fc x = ageAt fc x := by
  have := x.lastUse.isLt
  simp only [age, ageAt, BitVec.toNat_sub]
  omega

theorem reusable_iff_unpinned (x : Line) : reusable x = true ↔ Unpinned x := by
  simp [reusable_iff, Unpinned, pinned]

/-- Once the best line is as old as any that follow, it stays the best. -/
theorem oldestFrom_of_oldest {fc : Word} {ls : List Line} (k m a : Nat)
    (h : ∀ x ∈ ls, reusable x = true → age fc x ≤ a) : oldestFrom fc ls k (some (m, a)) = some (m, a) := by
  induction ls generalizing k with
  | nil => rfl
  | cons x ls ih =>
    obtain ⟨hx, hls⟩ := List.forall_mem_cons.1 h
    have hbest : (if reusable x = true then if a < age fc x then some (k, age fc x) else some (m, a) else some (m, a))
        = some (m, a) := by
      split
      next hr => exact if_neg (Nat.not_lt.2 (hx hr))
      · rfl
    simp only [oldestFrom, hbest]
    exact ih (k + 1) hls

/-- A reusable line older than the best so far is the best. -/
theorem oldestFrom_cons_of_older {fc : Word} {x : Line} {ls : List Line} {k : Nat} {best : Option (Nat × Nat)}
    (hr : reusable x = true) (hbest : ∀ b ∈ best, b.2 < age fc x) :
    oldestFrom fc (x :: ls) k best = oldestFrom fc ls (k + 1) (some (k, age fc x)) := by
  cases best with
  | none => simp [oldestFrom, hr]
  | some b => simp [oldestFrom, hr, hbest b rfl]

/-- The search finds the oldest reusable line, the lowest number among equals. -/
theorem oldestFrom_eq {fc : Word} {ls : List Line} {n : Nat} {x : Line} (hx : ls[n]? = some x)
    (hr : reusable x = true)
    (hold : ∀ m y, ls[m]? = some y → reusable y = true → age fc y < age fc x ∨ (age fc y = age fc x ∧ n ≤ m))
    (k : Nat) {best : Option (Nat × Nat)} (hbest : ∀ b ∈ best, b.2 < age fc x) :
    oldestFrom fc ls k best = some (k + n, age fc x) := by
  induction ls generalizing n k best with
  | nil => simp at hx
  | cons z ls ih =>
    cases n with
    | zero =>
      obtain rfl : z = x := Option.some.inj hx
      rw [oldestFrom_cons_of_older hr hbest]
      refine oldestFrom_of_oldest _ _ _ fun y hy hyr => ?_
      obtain ⟨m, hm⟩ := List.mem_iff_getElem?.1 hy
      obtain hlt | ⟨heq, -⟩ := hold (m + 1) y hm hyr
      · exact hlt.le
      · exact heq.le
    | succ n =>
      have hz : reusable z = true → age fc z < age fc x := fun hzr =>
        (hold 0 z rfl hzr).resolve_right fun h => by omega
      have hlater : ∀ m y, ls[m]? = some y → reusable y = true →
          age fc y < age fc x ∨ (age fc y = age fc x ∧ n ≤ m) := fun m y hy hyr =>
        (hold (m + 1) y hy hyr).imp_right fun h => ⟨h.1, by omega⟩
      unfold oldestFrom
      rw [ih (by exact hx) hlater (k + 1) ?_, Nat.add_assoc, Nat.add_comm 1 n]
      intro b hb
      split at hb
      next hzr =>
        split at hb
        · cases hb
          exact hz hzr
        · split at hb
          · cases hb
            exact hz hzr
          · exact hbest b hb
      · exact hbest b hb

/-- An allocation takes the line R25 names. -/
theorem chooseLine_of_chosen {lines : List Line} {fc : Word} {n : Nat} (h : ChosenLine lines fc n) :
    chooseLine fc lines = some n := by
  obtain ⟨x, hx, ⟨he, hfirst⟩ | ⟨hnone, hu, hold⟩⟩ := h
  · have hfind : lines.findIdx? (fun l => decide (l.state = .empty)) = some n := by
      obtain ⟨hn, rfl⟩ := List.getElem?_eq_some_iff.1 hx
      refine List.findIdx?_eq_some_iff_getElem.2 ⟨hn, by simpa using he, fun m hm => ?_⟩
      simpa using hfirst m _ hm (List.getElem?_eq_getElem (by omega))
    simp only [chooseLine, hfind]
  · have hfind : lines.findIdx? (fun l => decide (l.state = .empty)) = none :=
      List.findIdx?_eq_none_iff.2 fun y hy => by simpa using hnone y hy
    have holdest := oldestFrom_eq (fc := fc) hx ((reusable_iff_unpinned x).2 hu)
      (fun m y hy hyr => by simpa only [age_eq_ageAt] using hold m y hy ((reusable_iff_unpinned y).1 hyr)) 0
      (best := none) nofun
    simp [chooseLine, hfind, holdest]

theorem oldestFrom_isSome {fc : Word} {ls : List Line} (k : Nat) {best : Option (Nat × Nat)}
    (h : best.isSome = true ∨ ∃ x ∈ ls, reusable x = true) : (oldestFrom fc ls k best).isSome = true := by
  induction ls generalizing k best with
  | nil => simpa [oldestFrom] using h
  | cons z ls ih =>
    refine ih (k + 1) ?_
    by_cases hz : reusable z = true
    · left
      rw [if_pos hz]
      split
      · rfl
      · split <;> rfl
    · rw [if_neg hz]
      simpa [hz] using h

/-- While some line neither carries a pin nor fills, an allocation finds one (R25). -/
theorem exists_chooseLine {fc : Word} {lines : List Line} {x : Line} (hx : x ∈ lines) (hs : x.state ≠ .filling)
    (hp : pinned x = false) : ∃ n, chooseLine fc lines = some n := by
  unfold chooseLine
  split
  next n _ => exact ⟨n, rfl⟩
  next hnone =>
    have hne : x.state ≠ .empty := by simpa using List.findIdx?_eq_none_iff.1 hnone x hx
    have hvalid : x.state = .valid := by
      cases hst : x.state with
      | empty => exact absurd hst hne
      | filling => exact absurd hst hs
      | valid => rfl
    obtain ⟨r, hr⟩ := Option.isSome_iff_exists.1 (oldestFrom_isSome (fc := fc) 0 (best := none)
      (.inr ⟨x, hx, (reusable_iff x).2 ⟨hvalid, hp⟩⟩))
    exact ⟨r.1, by rw [hr]; rfl⟩

/-! ### A request that fits covers its set (R24, R25) -/

/-- The line holds the pattern with the pin, dated now. -/
def PinnedFor (p : Pin) (fc : Word) (i : PatternIndex) (x : Line) : Prop :=
  x.state ≠ .empty ∧ x.index = i ∧ hasPin p x = true ∧ x.lastUse = fc

theorem pinned_of_hasPin {p : Pin} {x : Line} (h : hasPin p x = true) : pinned x = true := by
  cases p
  · exact Bool.or_eq_true_iff.2 (.inl h)
  · exact Bool.or_eq_true_iff.2 (.inr h)

theorem LineLaw.pinned_of_filling {x : Line} (h : LineLaw x) (hf : x.state = .filling) : pinned x = true := by
  obtain ⟨-, hfilling, -⟩ := (lineLaw_iff x).1 h
  exact (hfilling hf).2

theorem not_reusable_of_pinned {x : Line} (h : pinned x = true) : reusable x = false := by
  simp [reusable, h]

theorem pinnedFor_allocatedLine (p : Pin) (fc : Word) (i : PatternIndex) :
    PinnedFor p fc i (allocatedLine p fc i) := by
  cases p <;> exact ⟨nofun, rfl, rfl, rfl⟩

theorem pinnedFor_pinHeldLine {p : Pin} {fc : Word} {set : List PatternIndex} {x : Line} (hs : x.state ≠ .empty)
    (hi : x.index ∈ set) : PinnedFor p fc x.index (pinHeldLine p fc set x) := by
  rw [pinHeldLine_of_mem ⟨hs, hi⟩]
  cases p <;> exact ⟨hs, rfl, rfl, rfl⟩

/-- The allocations of one request do not take each other's lines. -/
theorem foldl_allocate_keeps_pinnedFor {p : Pin} {fc : Word} {c : FrameCache} (is : List PatternIndex)
    {i : PatternIndex} (h : ∃ x ∈ c.lines, PinnedFor p fc i x) :
    ∃ x ∈ (is.foldl (allocate p fc) c).lines, PinnedFor p fc i x := by
  obtain ⟨x, hx, hfor⟩ := h
  obtain ⟨n, hn⟩ := List.mem_iff_getElem?.1 hx
  have ⟨hs, _, hp, _⟩ := hfor
  exact ⟨x, List.mem_of_getElem? (foldl_allocate_keeps is hn hs (not_reusable_of_pinned (pinned_of_hasPin hp))), hfor⟩

theorem countP_set_le (p : Line → Bool) (lines : List Line) (n : Nat) (y : Line) :
    (lines.set n y).countP p ≤ lines.countP p + 1 := by
  by_cases hn : n < lines.length
  · rw [List.countP_set hn]
    split <;> split <;> omega
  · rw [List.set_eq_of_length_le (Nat.le_of_not_lt hn)]
    exact Nat.le_succ _

/-- With an unpinned line left for each index, every allocation finds its line. -/
theorem foldl_allocate_covers {p : Pin} {fc : Word} {c : FrameCache} {is : List PatternIndex}
    (hfill : ∀ x ∈ c.lines, x.state = .filling → pinned x = true)
    (hroom : c.lines.countP pinned + is.length ≤ c.lines.length) :
    ∀ i ∈ is, ∃ x ∈ (is.foldl (allocate p fc) c).lines, PinnedFor p fc i x := by
  induction is generalizing c with
  | nil => exact nofun
  | cons i is ih =>
    rw [List.length_cons] at hroom
    obtain ⟨x, hx, hfree⟩ := List.countP_lt_length_iff.1 (show c.lines.countP pinned < c.lines.length by omega)
    have hnot : x.state ≠ .filling := fun hf => by
      rw [hfill x hx hf] at hfree
      cases hfree
    obtain ⟨n, hn⟩ := exists_chooseLine (fc := fc) hx hnot hfree
    obtain ⟨hlt, -⟩ := List.getElem?_eq_some_iff.1 (chooseLine_spec hn).choose_spec.1
    have hlines : (allocate p fc c i).lines = c.lines.set n (allocatedLine p fc i) := by
      simp only [allocate, hn]
    have hnew := pinnedFor_allocatedLine p fc i
    have ⟨_, _, hnewPin, _⟩ := hnew
    rw [List.forall_mem_cons, List.foldl_cons]
    refine ⟨foldl_allocate_keeps_pinnedFor is ⟨_, hlines ▸ List.mem_set hlt _, hnew⟩, ih (fun y hy hf => ?_) ?_⟩
    · obtain hy | rfl := List.mem_or_eq_of_mem_set (hlines ▸ hy)
      · exact hfill y hy hf
      · exact pinned_of_hasPin hnewPin
    · have hcount := countP_set_le pinned c.lines n (allocatedLine p fc i)
      rw [hlines, List.length_set]
      omega

theorem countP_le_add {α : Type} {p q r : α → Bool} {l : List α} (h : ∀ x, p x = true → q x = true ∨ r x = true) :
    l.countP p ≤ l.countP q + l.countP r := by
  induction l with
  | nil => exact Nat.le_refl _
  | cons x l ih =>
    have hx := h x
    simp only [List.countP_cons]
    cases hp : p x <;> simp only [hp] at hx
    · simp only [Bool.false_eq_true, if_false]
      omega
    · obtain hq | hr := hx trivial
      · rw [if_pos hq, if_pos rfl]
        omega
      · rw [if_pos hr, if_pos rfl]
        omega

/-- Whether pass 1 of a pin request takes the line. -/
def taken (set : List PatternIndex) (x : Line) : Bool := decide (x.state ≠ .empty ∧ x.index ∈ set)

/-- The lines of a set and its missing indices are no more than the set's indices (R23). -/
theorem countP_taken_add_missing_le {s : State} (h : CacheLaw s) {set : List PatternIndex} (hset : set.Nodup) :
    s.cache.lines.countP (taken set) + (missing set s.cache.lines).length ≤ set.length := by
  obtain ⟨-, -, hdistinct, -⟩ := h
  have htaken : ∀ i ∈ (s.cache.lines.filter (taken set)).map Line.index,
      i ∈ set ∧ s.cache.lines.any (holds i) = true := by
    intro i hi
    obtain ⟨x, hx, rfl⟩ := List.mem_map.1 hi
    obtain ⟨hx, ht⟩ := List.mem_filter.1 hx
    obtain ⟨hs, hmem⟩ := of_decide_eq_true ht
    exact ⟨hmem, List.any_eq_true.2 ⟨x, hx, (holds_iff _ x).2 ⟨hs, rfl⟩⟩⟩
  have hnodup : ((s.cache.lines.filter (taken set)).map Line.index ++ missing set s.cache.lines).Nodup := by
    refine List.Nodup.append ?_ (hset.filter _) fun i hi hm => ?_
    · exact List.pairwise_map.2 (List.pairwise_filter.2 (hdistinct.imp fun hne hx hy =>
        hne (of_decide_eq_true hx).1 (of_decide_eq_true hy).1))
    · simpa [(htaken i hi).2] using (List.mem_filter.1 hm).2
  have hsub : (s.cache.lines.filter (taken set)).map Line.index ++ missing set s.cache.lines ⊆ set :=
    List.append_subset.2 ⟨fun i hi => (htaken i hi).1, List.filter_subset_self _⟩
  have hle := (List.subperm_of_subset hnodup hsub).length_le
  rwa [List.length_append, List.length_map, ← List.countP_eq_length_filter] at hle

/-- The lines pinned after pass 1 and the indices still missing fit where the pinned lines and the set do. -/
theorem countP_pinHeld_add_missing_le {s : State} (h : CacheLaw s) (p : Pin) (fc : Word) {set : List PatternIndex}
    (hset : set.Nodup) : (pinHeld p fc set s.cache.lines).countP pinned + (missing set s.cache.lines).length
      ≤ s.cache.lines.countP pinned + set.length := by
  have hpass : (pinHeld p fc set s.cache.lines).countP pinned
      ≤ s.cache.lines.countP pinned + s.cache.lines.countP (taken set) := by
    rw [pinHeld_eq, List.countP_map]
    refine countP_le_add fun x hx => ?_
    by_cases ht : x.state ≠ .empty ∧ x.index ∈ set
    · exact .inr (decide_eq_true ht)
    · rw [Function.comp, pinHeldLine_of_not_mem ht] at hx
      exact .inl hx
  have := countP_taken_add_missing_le h hset
  omega

/-- While the pinned lines and the set fit the cache, each index of the set ends on a line for it (R24). -/
theorem pinCache_covers {s : State} (h : CacheLaw s) (p : Pin) (fc : Word) {set : List PatternIndex}
    (hset : set.Nodup) (hroom : s.cache.lines.countP pinned + set.length ≤ Config.lineCount) :
    ∀ i ∈ set, ∃ x ∈ (pinCache p fc set s.cache).lines, PinnedFor p fc i x := by
  intro i hi
  have hlaw := ((cacheLaw_iff s).1 h).pinHeld p fc set
  rw [pinCache_eq]
  by_cases hheld : s.cache.lines.any (holds i) = true
  · obtain ⟨x, hx, hxi⟩ := List.any_eq_true.1 hheld
    obtain ⟨hs, rfl⟩ := (holds_iff i x).1 hxi
    exact foldl_allocate_keeps_pinnedFor _ ⟨_, List.mem_map_of_mem hx, pinnedFor_pinHeldLine hs hi⟩
  · refine foldl_allocate_covers (fun x hx hf => ?_) ?_ i (List.mem_filter.2 ⟨hi, by simpa using hheld⟩)
    · obtain ⟨n, hn⟩ := List.mem_iff_getElem?.1 hx
      exact (hlaw.line n x hn).pinned_of_filling hf
    · exact (countP_pinHeld_add_missing_le h p fc hset).trans (hroom.trans hlaw.count.ge)

/-- A line pinned before keeps its pattern, its contents and its pins (R24). -/
theorem pinCache_keeps_pinned {s : State} (h : CacheLaw s) (p : Pin) (fc : Word) (set : List PatternIndex)
    {n : Nat} {x : Line} (hx : s.cache.lines[n]? = some x) (hp : pinned x = true) :
    ∃ y, (pinCache p fc set s.cache).lines[n]? = some y
      ∧ y.state = x.state ∧ y.index = x.index ∧ y.wordsRead = x.wordsRead ∧ y.segments = x.segments
      ∧ y.level = x.level ∧ (x.current = true → y.current = true) ∧ (x.next = true → y.next = true) := by
  have hs := (((cacheLaw_iff s).1 h).line n x hx).pinned_state hp
  have hc := sameContents_pinHeldLine p fc set x
  refine ⟨_, pinCache_keeps set hx hs (not_reusable_of_pinned hp), hc.state, hc.index, hc.wordsRead, hc.segments,
    hc.level, ?_⟩
  unfold pinHeldLine
  split
  · cases p
    · exact ⟨fun _ => rfl, id⟩
    · exact ⟨id, fun _ => rfl⟩
  · exact ⟨id, id⟩

/-! ### The obligation -/

theorem any_holds_iff (i : PatternIndex) (lines : List Line) :
    lines.any (holds i) = true ↔ ∃ x ∈ lines, x.state ≠ .empty ∧ x.index = i := by
  simp only [List.any_eq_true, holds_iff]

theorem any_holds_eq_false {i : PatternIndex} {lines : List Line} (h : ∀ x ∈ lines, x.state ≠ .empty → x.index ≠ i) :
    lines.any (holds i) = false := by
  rw [← Bool.not_eq_true, any_holds_iff]
  rintro ⟨x, hx, hs, hi⟩
  exact h x hx hs hi

theorem setPins_nil (p : Pin) (s : State) : setPins p [] s = s := by
  unfold setPins
  rw [pinCache_nil]
  rfl

theorem indexSet_append_singleton (table : List SlotRecord) (r : SlotRecord) (base : PatternIndex) :
    indexSet (table ++ [r]) base =
      if base + r.offset ∈ indexSet table base then indexSet table base
      else indexSet table base ++ [base + r.offset] := by
  simp only [indexSet, distinct, List.map_append, List.foldl_append]
  rfl

/-- An index that a line holds gives the line the pin and its date (R24). -/
theorem setPins_held (p : Pin) {s : State} {i : PatternIndex} (h : s.cache.lines.any (holds i) = true) :
    setPins p [i] s = s.withCache { s.cache with lines := s.cache.lines.map (fun x =>
      if x.state ≠ .empty ∧ x.index = i then { addPin p x with lastUse := s.scan.frameCounter } else x) } := by
  unfold setPins
  rw [pinCache_held p _ h]
  simp only [pinHeld, List.mem_singleton]

/-- An index that no line holds takes the line R25 chooses (R24, R32). -/
theorem setPins_not_held (p : Pin) {s : State} {i : PatternIndex} (h : s.cache.lines.any (holds i) = false)
    {n : Nat} (hn : ChosenLine s.cache.lines s.scan.frameCounter n) :
    setPins p [i] s = s.withCache
      ⟨s.cache.lines.set n (allocatedLine p s.scan.frameCounter i), joinFills ⟨n, classOfPin p⟩ s.cache.fills⟩ := by
  unfold setPins
  rw [pinCache_not_held p _ h]
  simp only [allocate, chooseLine_of_chosen hn]

/-- Settles O48: coverage by counting the lines left unpinned, the order by the two passes. -/
theorem pinRequestCoversSet : Obligations.PinRequestCoversSet := by
  refine ⟨fun s p set h hset hroom => ⟨pinCache_covers h p _ hset hroom, fun n x => pinCache_keeps_pinned h p _ set⟩,
    fun s p set i hnodup => ⟨setPins_nil p s, fun hheld => ?_, fun hnone => ?_⟩,
    fun table r base => ⟨rfl, indexSet_append_singleton table r base⟩⟩
  · have hany := (any_holds_iff i _).2 hheld
    refine ⟨(setPins_held p hany).trans ?_, congrArg s.withCache (pinCache_append_held p _ set hany)⟩
    cases p <;> rfl
  · have hany := any_holds_eq_false hnone
    have hi : i ∉ set := fun hi => List.disjoint_of_nodup_append hnodup hi (List.mem_singleton_self i)
    refine ⟨fun n hn => (setPins_not_held p hany hn).trans ?_,
      congrArg s.withCache (pinCache_append_not_held p _ hi hany)⟩
    cases p <;> rfl

end Sys2Proof.Machine
end

/-! PROOFS of the frame switch's statement about FLIP (O31): what a preparation begins with, and FLIP in each of its
outcomes. -/

section
namespace Sys2Proof.Machine

/-! ## FLIP (R45, R47, R48) -/

/-- A report to a record that is PREPARING makes it READY exactly when every NEXT line is VALID (R37, R48). -/
theorem reportNext_of_preparing {s : State} (h : s.switch.state = .preparing) :
    reportNext s =
      if ∀ x ∈ s.cache.lines, x.next = true → x.state = .valid then s.withSwitch { s.switch with state := .ready }
      else s := by
  split
  next hres => exact if_pos ((nextResident_iff s).2 ⟨h, hres⟩)
  next hres => exact reportNext_of_not fun hrep => hres hrep.2

/-- A preparation is the record written and the NEXT pins set, READY at once when every NEXT line is VALID (R47). -/
theorem beginPreparation_eq {s t : State} {table : List SlotRecord} {base : PatternIndex}
    (ht : t = setPins .next (indexSet table base) (s.withSwitch ⟨.preparing, table, base, 0, s.switch.timeout⟩)) :
    beginPreparation table base s =
      if ∀ x ∈ t.cache.lines, x.next = true → x.state = .valid then t.withSwitch { t.switch with state := .ready }
      else t := by
  have hprep : t.switch.state = .preparing := by simp [ht]
  rw [← reportNext_of_preparing hprep, ht, beginPreparation]

@[simp] theorem argument_commandTaken (s : State) (a : Nat) (l : Lanes) (d code : Word) :
    (commandTaken s a l d code).cmd.argument = s.cmd.argCopy := rfl

/-- Settles O31: the granted write is taken as FLIP, whose first outcome the scan state and the argument decide. -/
theorem flipPreparesNextFrame : Obligations.FlipPreparesNextFrame := by
  intro s a l d hw hidle
  have hflip : exec .flip s = .next (runFlip (commandTaken s a l d 3)) :=
    congrArg _ (takeRow_of_command hw hidle (by decide))
  refine ⟨fun hst => ?_, fun hst harg => ?_, fun hst harg t ht => ?_⟩
  · simp only [hflip, runFlip, scan_commandTaken, hst, completeTaken_commandTaken]
  · simp only [hflip, runFlip, scan_commandTaken, hst, argument_commandTaken, if_pos harg,
      completeTaken_commandTaken]
  · have hfits : ¬ 512 ≤ s.cmd.argCopy.toNat := by omega
    simp only [hflip, runFlip, scan_commandTaken, hst, argument_commandTaken, hfits, if_false]
    exact congrArg _ (beginPreparation_eq ht)

end Sys2Proof.Machine
end

/-! PROOFS of the key scanner's statements (O8, O33, O34, O53, O54, O55, O56). First what each of the scanner's
operations does, an equation per case (one key of an observation, the drain of KEY_RESET, the boundary action); then
that every happening keeps the scanner's laws, which rests on those equations. -/

section
-- Proofs are elaborated one after another: in parallel their threads' stacks outgrow the checker's memory limit.
set_option Elab.async false

namespace Sys2Proof.Machine

/-! ## The key table -/

theorem keyAt_of_getElem? {s : State} {k : Nat} {x : Key} (h : s.keys.table[k]? = some x) : keyAt s k = x := by
  simp [keyAt, List.getD_eq_getElem?_getD, h]

/-- A key that reads as DOWN is in the table. -/
theorem getElem?_of_keyAt_down {s : State} {k : Nat} (h : (keyAt s k).down = true) :
    s.keys.table[k]? = some (keyAt s k) := by
  unfold keyAt at *
  rw [List.getD_eq_getElem?_getD] at *
  cases hx : s.keys.table[k]? with
  | none => simp [hx, Key.up] at h
  | some x => rfl

/-- The entry of a key that has been changed. -/
theorem getElem?_setKey {s : State} {k : Nat} {x : Key} (h : s.keys.table[k]? = some x) (y : Key) :
    (setKey k y s).keys.table[k]? = some y := by
  obtain ⟨hk, -⟩ := List.getElem?_eq_some_iff.1 h
  simp [setKey, hk]

/-- A key set to what it is. -/
theorem setKey_self {s : State} {k : Nat} {x : Key} (h : s.keys.table[k]? = some x) : setKey k x s = s := by
  obtain ⟨hk, rfl⟩ := List.getElem?_eq_some_iff.1 h
  unfold setKey
  rw [List.set_getElem_self]
  rfl

/-- How many keys are DOWN once one entry has changed. -/
theorem countP_down_set {t : List Key} {k : Nat} {x : Key} (h : t[k]? = some x) (y : Key) :
    (t.set k y).countP (fun z => z.down) + x.down.toNat = t.countP (fun z => z.down) + y.down.toNat := by
  induction t generalizing k with
  | nil => simp at h
  | cons z t ih =>
    cases k with
    | zero =>
      cases h
      cases hx : x.down <;> cases hy : y.down <;> simp [hx, hy]
    | succ k =>
      have hrest := ih (k := k) (by simpa using h)
      simp only [List.set_cons_succ, List.countP_cons]
      omega

/-- A change that leaves the key's stable state leaves the down count. -/
theorem downCount_setKey {s : State} {k : Nat} {x y : Key} (h : s.keys.table[k]? = some x) (hd : y.down = x.down) :
    downCount (setKey k y s) = downCount s := by
  have hcount := countP_down_set h y
  rw [hd] at hcount
  exact Nat.add_right_cancel hcount

/-! ## One key of an observation (R60 to R68) -/

theorem reserve_of_room {s : State} (h : canReserve s = true) (e : KeyEvent) : reserve e s = some (stage e s) :=
  if_pos h

theorem reserve_of_full {s : State} (h : canReserve s = false) (e : KeyEvent) : reserve e s = none :=
  (reserve_eq_none_iff e s).2 h

/-- An agreeing observation (R61). -/
theorem observeKey_of_agree {s : State} {k : Nat} {x : Key} (h : s.keys.table[k]? = some x) :
    observeKey k x.down s = setKey k { x with count := 0, held := false } s := by
  simp [observeKey, keyAt_of_getElem? h]

theorem observeKey_of_disagree {s : State} {k : Nat} {x : Key} (h : s.keys.table[k]? = some x) :
    observeKey k (!x.down) s = disagree k s := by
  simp [observeKey, keyAt_of_getElem? h]

/-- A disagreeing observation short of the debounce scans counts (R62). -/
theorem observeKey_of_counting {s : State} {k : Nat} {x : Key} (h : s.keys.table[k]? = some x)
    (hheld : x.held = false) (hc : x.count + 1 < s.keys.debounce) :
    observeKey k (!x.down) s = setKey k { x with count := x.count + 1 } s := by
  have hmin : min (x.count + 1) s.keys.debounce = x.count + 1 := by omega
  rw [observeKey_of_disagree h]
  simp [disagree, keyAt_of_getElem? h, hheld, hmin, hc]

/-- A change of a key that a disagreeing observation finds ready, its candidate count then `c`: it is held, or the
observation brings the count to the debounce scans (R62). -/
def ChangeReady (debounce : Nat) (x : Key) (c : Nat) : Prop :=
  (x.held = true ∧ c = x.count) ∨ (x.held = false ∧ debounce ≤ x.count + 1 ∧ c = debounce)

/-- A ready change is tried (R62). -/
theorem observeKey_of_ready {s : State} {k c : Nat} {x : Key} (h : s.keys.table[k]? = some x)
    (hr : ChangeReady s.keys.debounce x c) :
    observeKey k (!x.down) s = acceptChange k (setKey k { x with count := c } s) := by
  rw [observeKey_of_disagree h]
  obtain ⟨hheld, rfl⟩ | ⟨hheld, hle, rfl⟩ := hr
  · rw [setKey_self h]
    simp [disagree, keyAt_of_getElem? h, hheld]
  · have hmin : min (x.count + 1) s.keys.debounce = s.keys.debounce := by omega
    simp [disagree, keyAt_of_getElem? h, hheld, hmin]

section
variable {s : State} {k : Nat} {x : Key}

/-- A release with room is staged, the key is UP, and a tracker of that key is cleared (R64, R72). -/
theorem acceptChange_of_release (h : s.keys.table[k]? = some x) (hd : x.down = true) (hroom : canReserve s = true) :
    acceptChange k s = (stage ⟨.release, k, 0, downCount s - 1⟩ s).withKeys { s.keys with
      table := s.keys.table.set k ⟨false, 0, false⟩,
      repeatKey := if s.keys.repeatKey = some k then none else s.keys.repeatKey,
      framesToRepeat := if s.keys.repeatKey = some k then 0 else s.keys.framesToRepeat,
      repeatCount := if s.keys.repeatKey = some k then 0 else s.keys.repeatCount } := by
  simp only [acceptChange, keyAt_of_getElem? h, hd, if_true, acceptRelease, reserve_of_room hroom]
  by_cases hk : s.keys.repeatKey = some k
  · simp only [setKey, State.withKeys_keys, stage_keys, hk, if_true]
    rfl
  · simp only [setKey, State.withKeys_keys, stage_keys, hk, if_false]
    rfl

/-- A press below the rollover limit with room is staged, the key is DOWN, and the tracker takes it if there is a
repeat delay (R66, R72). -/
theorem acceptChange_of_press (h : s.keys.table[k]? = some x) (hd : x.down = false)
    (hlim : downCount s < s.keys.rollover) (hroom : canReserve s = true) :
    acceptChange k s = (stage ⟨.press, k, 0, downCount s + 1⟩ s).withKeys { s.keys with
      table := s.keys.table.set k ⟨true, 0, false⟩,
      repeatKey := if 0 < s.keys.repeatDelay then some k else s.keys.repeatKey,
      framesToRepeat := if 0 < s.keys.repeatDelay then s.keys.repeatDelay else s.keys.framesToRepeat,
      repeatCount := if 0 < s.keys.repeatDelay then 0 else s.keys.repeatCount } := by
  simp only [acceptChange, keyAt_of_getElem? h, hd, Nat.not_le.2 hlim, if_false, Bool.false_eq_true, acceptPress,
    reserve_of_room hroom]
  by_cases hdelay : 0 < s.keys.repeatDelay
  · simp only [setKey, State.withKeys_keys, stage_keys, hdelay, if_true]
    rfl
  · simp only [setKey, State.withKeys_keys, stage_keys, hdelay, if_false]

/-- Without room the change is held (R62, R64, R66). -/
theorem acceptChange_of_full (h : s.keys.table[k]? = some x) (hx : x.down = true ∨ downCount s < s.keys.rollover)
    (hfull : canReserve s = false) : acceptChange k s = setKey k { x with held := true } s := by
  cases hd : x.down with
  | true => simp [acceptChange, acceptRelease, hold, keyAt_of_getElem? h, hd, reserve_of_full hfull]
  | false =>
    have hlim : downCount s < s.keys.rollover := hx.resolve_left (by simp [hd])
    simp [acceptChange, acceptPress, hold, keyAt_of_getElem? h, hd, Nat.not_le.2 hlim, reserve_of_full hfull]

/-- A press at the rollover limit is held and marked, and jam entry is tried (R65, R68). -/
theorem acceptChange_of_rollover (h : s.keys.table[k]? = some x) (hd : x.down = false)
    (hlim : s.keys.rollover ≤ downCount s) :
    acceptChange k s = jamEntry (s.withKeys { s.keys with
      table := s.keys.table.set k { x with held := true }, refusalMark := true }) := by
  simp only [acceptChange, keyAt_of_getElem? h, hd, hlim, if_true, if_false, Bool.false_eq_true, refuseRollover, hold,
    setKey, State.withKeys_keys]
  rfl

end

theorem jamEntry_of_jammed {s : State} (h : s.keys.jammed = true) : jamEntry s = s := if_pos h

theorem jamEntry_of_full {s : State} (h : canReserve s = false) : jamEntry s = s := by
  simp [jamEntry, reserve_of_full h]

/-- Jam entry with room (R68). -/
theorem jamEntry_of_room {s : State} (h : s.keys.jammed = false) (hroom : canReserve s = true) :
    jamEntry s = (stage ⟨.jam, 255, 0, downCount s⟩ s).withKeys { s.keys with jammed := true } := by
  simp [jamEntry, h, reserve_of_room hroom]

/-- Settles O54: the equation of an agreeing observation. -/
theorem agreeingKeyGivesUpChange : Obligations.AgreeingKeyGivesUpChange := fun _ _ _ h => observeKey_of_agree h

/-- Settles O55: a change that is not ready counts, a ready one is tried with its new count in place. -/
theorem disagreeingKeyCountsThenChanges : Obligations.DisagreeingKeyCountsThenChanges := by
  rintro s t k ⟨down, count, held⟩ c h -
  refine ⟨observeKey_of_counting h, fun hready => ?_⟩
  have htried := observeKey_of_ready h hready
  have hu := getElem?_setKey h ⟨down, c, held⟩
  have hdown : downCount (setKey k ⟨down, c, held⟩ s) = downCount s := downCount_setKey h rfl
  refine ⟨fun hd hroom ht => ?_, fun hd hlim hroom ht => ?_, fun hx hfull => ?_⟩
  · obtain rfl : down = true := hd
    rw [ht, ← hdown]
    refine htried.trans ((acceptChange_of_release hu rfl hroom).trans ?_)
    simp only [setKey, State.withKeys_keys, List.set_set]
    rfl
  · obtain rfl : down = false := hd
    rw [ht, ← hdown]
    refine htried.trans ((acceptChange_of_press hu rfl (hdown.trans_lt hlim) hroom).trans ?_)
    simp only [setKey, State.withKeys_keys, List.set_set]
    rfl
  · refine htried.trans ((acceptChange_of_full hu (by rw [hdown]; exact hx) hfull).trans ?_)
    simp only [setKey, State.withKeys_keys, List.set_set]
    rfl

/-- Settles O56: a ready press at the limit is refused, then jam entry takes one of its three ways. -/
theorem rolloverRefusesPress : Obligations.RolloverRefusesPress := by
  rintro s t k ⟨down, count, held⟩ c h hd hready hlim ht
  obtain rfl : down = false := hd
  have hrefused : observeKey k true s = jamEntry t := by
    have hdown : downCount (setKey k ⟨false, c, held⟩ s) = downCount s := downCount_setKey h rfl
    have hu := acceptChange_of_rollover (getElem?_setKey h ⟨false, c, held⟩) rfl (hlim.trans_eq hdown.symm)
    simp only [setKey, State.withKeys_keys, List.set_set] at hu
    rw [ht]
    exact (observeKey_of_ready h hready).trans hu
  have hdown : downCount t = downCount s := by
    rw [ht]
    exact downCount_setKey (y := ⟨false, c, true⟩) h rfl
  have hjam : t.keys.jammed = s.keys.jammed := by rw [ht]; rfl
  have hcan : canReserve t = canReserve s := by rw [ht]; rfl
  refine ⟨fun hj => hrefused.trans (jamEntry_of_jammed (hjam.trans hj)),
    fun _ hfull => hrefused.trans (jamEntry_of_full (hcan.trans hfull)), fun hj hroom => ?_⟩
  rw [hrefused, jamEntry_of_room (hjam.trans hj) (hcan.trans hroom), hdown]

/-! ## KEY_RESET and its drain (R74 to R76) -/

section
variable {s : State} {k : Nat} {x : Key}

/-- A drain passes a key that is UP (R75). -/
theorem drainFrom_of_up (hd : (keyAt s k).down = false) (n : Nat) :
    drainFrom (n + 1) k s = drainFrom n (k + 1) s := by
  simp [drainFrom, hd]

/-- A drain releases a key that is DOWN under a reservation (R75). -/
theorem drainFrom_of_down (h : s.keys.table[k]? = some x) (hd : x.down = true) (hroom : canReserve s = true)
    (n : Nat) : drainFrom (n + 1) k s = drainFrom n (k + 1)
      ((stage ⟨.release, k, 0, downCount s - 1⟩ s).withKeys { s.keys with
        table := s.keys.table.set k ⟨false, x.count, x.held⟩, released := s.keys.released + 1 }) := by
  have hkey : keyAt (stage ⟨.release, k, 0, downCount s - 1⟩ s) k = x := keyAt_of_getElem? h
  simp only [drainFrom, keyAt_of_getElem? h, hd, if_true, reserve_of_room hroom, hkey]
  rfl

/-- A drain waits at a key that is DOWN when there is no room (R75). -/
theorem drainFrom_of_full (h : s.keys.table[k]? = some x) (hd : x.down = true) (hfull : canReserve s = false)
    (n : Nat) : drainFrom (n + 1) k s = s.withKeys { s.keys with reset := .draining k } := by
  simp [drainFrom, keyAt_of_getElem? h, hd, reserve_of_full hfull]

end

/-- A drain of a table with no key DOWN comes to its end at once. -/
theorem drainFrom_of_all_up {s : State} (h : ∀ x ∈ s.keys.table, x.down = false) (n k : Nat) :
    drainFrom n k s = drainJam s := by
  induction n generalizing k with
  | zero => rfl
  | succ n ih =>
    have hup : (keyAt s k).down = false := by
      by_contra hd
      have hdown : (keyAt s k).down = true := by simpa using hd
      rw [h _ (List.mem_of_getElem? (getElem?_of_keyAt_down hdown))] at hdown
      cases hdown
    rw [drainFrom_of_up hup, ih]

theorem drainJam_of_not_jammed {s : State} (h : s.keys.jammed = false) : drainJam s = finishKeyReset s := by
  simp [drainJam, h]

/-- The end of a drain clears a jam under a reservation (R75). -/
theorem drainJam_of_room {s : State} (h : s.keys.jammed = true) (hroom : canReserve s = true) :
    drainJam s = finishKeyReset ((stage ⟨.jamClear, 255, 0, 0⟩ s).withKeys { s.keys with jammed := false }) := by
  simp [drainJam, h, reserve_of_room hroom]

theorem drainJam_of_full {s : State} (h : s.keys.jammed = true) (hfull : canReserve s = false) :
    drainJam s = s.withKeys { s.keys with reset := .clearingJam } := by
  simp [drainJam, h, reserve_of_full hfull]

/-- Where a drain stands is written afresh when it waits or ends, so its end does not look at it. -/
theorem drainJam_withReset (r : KeyResetProgress) (s : State) :
    drainJam (s.withKeys { s.keys with reset := r }) = drainJam s := by
  cases hj : s.keys.jammed with
  | false => exact (drainJam_of_not_jammed (by exact hj)).trans (drainJam_of_not_jammed hj).symm
  | true =>
    cases hroom : canReserve s with
    | false => exact (drainJam_of_full (by exact hj) (by exact hroom)).trans (drainJam_of_full hj hroom).symm
    | true => exact (drainJam_of_room (by exact hj) (by exact hroom)).trans (drainJam_of_room hj hroom).symm

/-- Nor does a drain that has keys left. -/
theorem drainFrom_withReset (r : KeyResetProgress) (n k : Nat) (s : State) :
    drainFrom n k (s.withKeys { s.keys with reset := r }) = drainFrom n k s := by
  induction n generalizing k s with
  | zero => exact drainJam_withReset r s
  | succ n ih =>
    cases hd : (keyAt s k).down with
    | false => rw [drainFrom_of_up (s := s.withKeys _) (by exact hd), ih, drainFrom_of_up hd]
    | true =>
      have hx := getElem?_of_keyAt_down hd
      cases hroom : canReserve s with
      | false =>
        exact (drainFrom_of_full (by exact hx) hd (by exact hroom) n).trans (drainFrom_of_full hx hd hroom n).symm
      | true =>
        exact (drainFrom_of_down (by exact hx) hd (by exact hroom) n).trans
          ((ih (k + 1) _).trans (drainFrom_of_down hx hd hroom n).symm)

theorem askDrain_of_draining {s : State} {k : Nat} (h : s.keys.reset = .draining k) :
    askDrain s = drainFrom (128 - k) k s := by
  simp [askDrain, h, Config.keyCount]

/-- A drain that has passed key 127 asks for the jam's end only. -/
theorem askDrain_of_end {s : State} (h : s.keys.reset = .draining 128 ∨ s.keys.reset = .clearingJam) :
    askDrain s = drainJam s := by
  obtain h | h := h
  · exact askDrain_of_draining h
  · simp [askDrain, h]

/-- DRAIN_RETRY with room asks the drain (R75). -/
theorem exec_drainRetry_of_room {s : State} (h : s.keys.reset ≠ .idle) (hroom : canReserve s = true) :
    exec .drainRetry s = .next (askDrain s) := by
  simp [exec, execDrainRetry, h, hroom]

/-- DRAIN_RETRY without room takes the end of the record's fourth word (R75, R85). -/
theorem exec_drainRetry_of_record {s : State} {p : Nat} {d : Word} {r : Bool} (h : s.keys.reset ≠ .idle)
    (hfull : canReserve s = false) (hp : s.arb.port = .write (.record p 3) d r) :
    exec .drainRetry s = exec .writeStageWriteDone s := by
  simp [exec, execDrainRetry, execWriteStageWriteDone, h, hfull, hp]

/-- DRAIN_RETRY without room takes a granted valid consumer write (R75, R87). -/
theorem exec_drainRetry_of_consumer {s : State} {a : Nat} {l : Lanes} {d : Word} (h : s.keys.reset ≠ .idle)
    (hfull : canReserve s = false) (hw : WriteGranted s a l d .consumerCell)
    (hv : validConsumer s.queue (mergeLanes l d (toWord s.queue.cons)).toNat = true) :
    exec .drainRetry s = exec .consumerCellWrite s := by
  have hvalid : validConsumerWrite a l d s = true := by simp [validConsumerWrite, hw.2, hv]
  have hconsumer : isConsumerWrite a l d s = true := decide_eq_true hw.2
  have hfree : s.arb.port = .free := hw.1.2.1
  simp [exec, execDrainRetry, execConsumerCellWrite, h, hfull, hfree, takeRow_of_writeGranted hw hvalid,
    takeRow_of_writeGranted hw hconsumer]

/-- Settles O34: a drain that stands at key `k` is `drainFrom` with that key's turn next, and its end `drainJam`. -/
theorem keyResetDrainsInKeyOrder : Obligations.KeyResetDrainsInKeyOrder := by
  intro s hlen
  have hnext : ∀ {k x}, s.keys.table[k]? = some x → 128 - k = (128 - (k + 1)) + 1 := fun h => by
    obtain ⟨hk, -⟩ := List.getElem?_eq_some_iff.1 h
    omega
  refine ⟨fun hr => ⟨exec_drainRetry_of_room hr, fun p d r => exec_drainRetry_of_record hr, ?_⟩, ?_, ?_, ?_,
    fun hend => ?_⟩
  · rintro a l d v hfull hw rfl hlt hle
    exact exec_drainRetry_of_consumer hr hfull hw (decide_eq_true ⟨hlt, hle⟩)
  · intro k x hr hx hd
    have hup : (keyAt s k).down = false := by rwa [keyAt_of_getElem? hx]
    rw [askDrain_of_draining hr, hnext hx, drainFrom_of_up hup, askDrain_of_draining rfl, drainFrom_withReset]
  · intro k x hr hx hd hroom
    rw [askDrain_of_draining hr, hnext hx, drainFrom_of_down hx hd hroom, askDrain_of_draining rfl]
    exact (drainFrom_withReset (.draining (k + 1)) _ _ _).symm
  · intro k x hr hx hd hfull
    rw [askDrain_of_draining hr, hnext hx, drainFrom_of_full hx hd hfull, ← hr]
    rfl
  · rw [askDrain_of_end hend]
    exact ⟨fun hj => drainJam_of_not_jammed hj, fun hj hroom => drainJam_of_room hj hroom,
      fun hj hfull => drainJam_of_full hj hfull⟩

/-- A drain that has no key to release and no jam to clear ends when it is asked (R75, R76). -/
theorem askDrain_of_nothing_left {s : State} {k : Nat} (hr : s.keys.reset = .draining k)
    (hup : ∀ x ∈ s.keys.table, x.down = false) (hj : s.keys.jammed = false) : askDrain s = finishKeyReset s := by
  rw [askDrain_of_draining hr, drainFrom_of_all_up hup, drainJam_of_not_jammed hj]

/-- Settles O33: KEY_RESET taken begins the drain, which with no key DOWN and no jam is at its end. -/
theorem keyResetClearsAndDrains : Obligations.KeyResetClearsAndDrains := by
  intro s t a l d hw hidle ht
  have hbegins : exec .keyReset s = .next (askDrain t) := by
    rw [ht]
    exact congrArg _ (takeRow_of_command hw hidle (by decide))
  refine ⟨hbegins, fun hup hj => ?_⟩
  have hup' : ∀ x ∈ t.keys.table, x.down = false := by
    rw [ht]
    exact List.forall_mem_map.2 hup
  rw [hbegins, askDrain_of_nothing_left (k := 0) (by rw [ht]; rfl) hup' (by rw [ht]; exact hj), ht]
  rfl

/-! ## The key scanner at a frame boundary (R70, R71, R73) -/

/-- Staging an event leaves room when there was room for two. -/
theorem canReserve_stage (e : KeyEvent) (s : State) : canReserve (stage e s) =
    decide (queueCount s.queue + staged s + 3 ≤ s.queue.len ∧ staged s ≤ 2) := by
  have hstaged : staged (stage e s) = staged s + 1 := by simp [staged, stage]
  have hqueue : queueCount (stage e s).queue = queueCount s.queue := rfl
  have hlen : (stage e s).queue.len = s.queue.len := rfl
  simp only [canReserve, hstaged, hqueue, hlen]
  congr 1
  simp only [eq_iff_iff]
  omega

theorem jamExit_of_not_due {s : State} (h : ¬ (s.keys.jammed = true ∧ s.keys.refusalMark = false)) :
    jamExit s = s := if_neg h

/-- The state with the jam left, its event staged. -/
def jamLeft (s : State) : State :=
  (stage ⟨.jamClear, 255, 0, downCount s⟩ s).withKeys { s.keys with jammed := false }

/-- A jam is left under a reservation (R71). -/
theorem jamExit_of_room {s : State} (hj : s.keys.jammed = true) (hm : s.keys.refusalMark = false)
    (hroom : canReserve s = true) : jamExit s = jamLeft s := by
  simp [jamExit, jamLeft, hj, hm, reserve_of_room hroom]

/-- A jam left takes one place: whether there is another (R82). -/
theorem canReserve_jamLeft (s : State) : canReserve (jamLeft s) =
    decide (queueCount s.queue + s.ws.staging.length + 3 ≤ s.queue.len ∧ s.ws.staging.length ≤ 2) :=
  canReserve_stage _ s

theorem jamExit_of_full {s : State} (hfull : canReserve s = false) : jamExit s = s := by
  simp [jamExit, reserve_of_full hfull]

theorem repeatStep_of_none {s : State} (h : s.keys.repeatKey = none) : repeatStep s = s := by
  simp [repeatStep, h]

section
variable {s : State} {k : Nat} {x : Key}

/-- The tracker counts down (R73). -/
theorem repeatStep_of_counting (h : s.keys.repeatKey = some k) (hx : s.keys.table[k]? = some x)
    (hd : x.down = true) (hn : 1 < s.keys.framesToRepeat) :
    repeatStep s = s.withKeys { s.keys with framesToRepeat := s.keys.framesToRepeat - 1 } := by
  have hne : s.keys.framesToRepeat - 1 ≠ 0 := by omega
  simp [repeatStep, h, keyAt_of_getElem? hx, hd, hne]

/-- A REPEAT is due when no frame but this one is left (R73). -/
theorem repeatStep_of_due (h : s.keys.repeatKey = some k) (hx : s.keys.table[k]? = some x) (hd : x.down = true)
    (hn : s.keys.framesToRepeat ≤ 1) : repeatStep s = repeatEvent k s := by
  have hzero : s.keys.framesToRepeat - 1 = 0 := by omega
  simp [repeatStep, h, keyAt_of_getElem? hx, hd, hzero]

end

/-- A REPEAT that is due is staged (R73). -/
theorem repeatEvent_of_room {s : State} (hroom : canReserve s = true) (k : Nat) :
    repeatEvent k s = (stage ⟨.repeatKey, k, min (s.keys.repeatCount + 1) 255, downCount s⟩ s).withKeys { s.keys with
      repeatCount := min (s.keys.repeatCount + 1) 255, framesToRepeat := s.keys.repeatInterval } := by
  simp only [repeatEvent, reserve_of_room hroom]
  rfl

/-- A REPEAT that is due with no room is dropped (R73). -/
theorem repeatEvent_of_full {s : State} (hfull : canReserve s = false) (k : Nat) :
    repeatEvent k s = s.withKeys { s.keys with framesToRepeat := s.keys.repeatInterval } := by
  simp only [repeatEvent, reserve_of_full hfull]

theorem keyBoundary_of_draining {s : State} (h : s.keys.reset ≠ .idle) : keyBoundary s = s := if_neg h

/-- The boundary action: jam exit, repeat, the refusal mark cleared (R70). -/
theorem keyBoundary_of_idle {s : State} (h : s.keys.reset = .idle) :
    keyBoundary s = (repeatStep (jamExit s)).withKeys { (repeatStep (jamExit s)).keys with refusalMark := false } :=
  if_pos h

section
variable {s t : State}

/-- With no jam to leave, the boundary action is the repeat step (R70). -/
theorem keyBoundary_of_no_exit (h : s.keys.reset = .idle)
    (hj : ¬ (s.keys.jammed = true ∧ s.keys.refusalMark = false)) (ht : repeatStep s = t) :
    keyBoundary s = t.withKeys { t.keys with refusalMark := false } := by
  rw [keyBoundary_of_idle h, jamExit_of_not_due hj, ht]

/-- With no refusal in the frame the mark stays clear. -/
theorem keyBoundary_of_unmarked (h : s.keys.reset = .idle) (ht : repeatStep (jamExit s) = t)
    (hm : t.keys.refusalMark = false) : keyBoundary s = t := by
  rw [keyBoundary_of_idle h, ht, ← hm]
  rfl

/-- A jam is left, then the repeat step follows (R70, R71). -/
theorem keyBoundary_of_exit (h : s.keys.reset = .idle) (hj : s.keys.jammed = true)
    (hm : s.keys.refusalMark = false) (hroom : canReserve s = true) (ht : repeatStep (jamLeft s) = t)
    (hmt : t.keys.refusalMark = false) : keyBoundary s = t :=
  keyBoundary_of_unmarked h (by rwa [jamExit_of_room hj hm hroom]) hmt

/-- A jam stays for want of room, and the repeat step follows (R70, R71). -/
theorem keyBoundary_of_full (h : s.keys.reset = .idle) (hfull : canReserve s = false) (ht : repeatStep s = t)
    (hmt : t.keys.refusalMark = false) : keyBoundary s = t :=
  keyBoundary_of_unmarked h (by rwa [jamExit_of_full hfull]) hmt

end

/-- The state in which the key scanner takes its boundary action, last of the three blocks (R16). -/
def beforeKeys (s : State) : State := switchBoundary (atBoundary s)

theorem takeBoundary_eq_keyBoundary (s : State) : takeBoundary s = keyBoundary (beforeKeys s) := takeBoundary_eq s

@[simp] theorem switchFrames_staging (r : Result) (n : Nat) (s : State) :
    (switchFrames r n s).ws.staging = s.ws.staging := by
  unfold switchFrames
  split <;> simp [completeTaken, complete, publish, movePins, repin]

@[simp] theorem beforeKeys_keys (s : State) : (beforeKeys s).keys = s.keys := by simp [beforeKeys, atBoundary]
@[simp] theorem beforeKeys_queue (s : State) : (beforeKeys s).queue = s.queue := by simp [beforeKeys, atBoundary]
@[simp] theorem beforeKeys_staging (s : State) : (beforeKeys s).ws.staging = s.ws.staging := by
  obtain ⟨n, h⟩ | ⟨r, h⟩ := switchBoundary_cases (atBoundary s) <;> simp [beforeKeys, h]
@[simp] theorem beforeKeys_frameCounter (s : State) :
    (beforeKeys s).scan.frameCounter = s.scan.frameCounter + 1 := by
  obtain h | h := scan_switchBoundary_cases (atBoundary s) <;> exact congrArg ScanEngine.frameCounter h
@[simp] theorem canReserve_beforeKeys (s : State) : canReserve (beforeKeys s) = canReserve s := by
  rw [canReserve, staged, beforeKeys_queue, beforeKeys_staging]
  rfl
@[simp] theorem downCount_beforeKeys (s : State) : downCount (beforeKeys s) = downCount s := by simp [downCount]

/-- REPEAT is the frame boundary at which the repeat key's REPEAT is due (R73). -/
theorem exec_repeatDue {s : State} {k : Nat} {x : Key} (hdue : BoundaryDue s) (h : s.keys.reset = .idle)
    (hk : s.keys.repeatKey = some k) (hx : s.keys.table[k]? = some x) (hd : x.down = true)
    (hn : s.keys.framesToRepeat = 1) : exec .repeatDue s = .next (takeBoundary s) := by
  simp [exec, execRepeat, (boundaryDue_iff s).2 hdue, repeatIsDue, h, hk, keyAt_of_getElem? hx, hd, hn]

/-! ### What a boundary stages -/

section
variable {s : State} {ks : KeyScanner}

theorem leaves_of_none (h : keyBoundary (beforeKeys s) = (beforeKeys s).withKeys ks) :
    (takeBoundary s).keys = ks ∧ (takeBoundary s).ws.staging = s.ws.staging ∧ (takeBoundary s).queue = s.queue := by
  simp [takeBoundary_eq_keyBoundary, h]

theorem leaves_of_one {e : KeyEvent} (h : keyBoundary (beforeKeys s) = (stage e (beforeKeys s)).withKeys ks) :
    (takeBoundary s).keys = ks
      ∧ (takeBoundary s).ws.staging = s.ws.staging ++ [⟨e, s.queue.nextSeq, s.scan.frameCounter + 1,
          (s.queue.prod + s.ws.staging.length) % s.queue.len⟩]
      ∧ (takeBoundary s).queue = { s.queue with nextSeq := s.queue.nextSeq + 1 } := by
  simp [takeBoundary_eq_keyBoundary, h, stage, stagedEvent, staged]

theorem leaves_of_two {e e' : KeyEvent} {ks' : KeyScanner}
    (h : keyBoundary (beforeKeys s) = (stage e' ((stage e (beforeKeys s)).withKeys ks')).withKeys ks) :
    (takeBoundary s).keys = ks
      ∧ (takeBoundary s).ws.staging = s.ws.staging ++ [⟨e, s.queue.nextSeq, s.scan.frameCounter + 1,
          (s.queue.prod + s.ws.staging.length) % s.queue.len⟩, ⟨e', s.queue.nextSeq + 1, s.scan.frameCounter + 1,
          (s.queue.prod + (s.ws.staging.length + 1)) % s.queue.len⟩]
      ∧ (takeBoundary s).queue = { s.queue with nextSeq := s.queue.nextSeq + 2 } := by
  simp [takeBoundary_eq_keyBoundary, h, stage, stagedEvent, staged, BitVec.add_assoc]

end

/-- Settles O53: the jam exit, then the repeat step, each in its cases, on the state the other two blocks leave. -/
theorem keyBoundaryRepeatsAndLeavesJam : Obligations.KeyBoundaryRepeatsAndLeavesJam := by
  intro s hdue
  have hrepeat := fun k x => exec_repeatDue (k := k) (x := x) hdue
  refine ⟨takeBoundary s, exec_frameBoundary hdue, ?_⟩
  rw [← beforeKeys_keys s] at hrepeat
  rw [← beforeKeys_keys s, ← canReserve_beforeKeys s, ← downCount_beforeKeys s]
  refine ⟨fun hr => ?_, fun hr hj hk => ?_, fun hr hj hm hk hroom => ?_, fun hr hj hm hk hfull => ?_,
    fun k x hr hj hk hx hd => ⟨fun hn => ?_, fun hn hroom => ⟨hrepeat k x hr hk hx hd hn, ?_⟩,
      fun hn hfull => ⟨hrepeat k x hr hk hx hd hn, ?_⟩⟩, ?_⟩
  · exact leaves_of_none (keyBoundary_of_draining hr)
  · exact leaves_of_none (keyBoundary_of_no_exit hr hj (repeatStep_of_none hk))
  · exact leaves_of_one (keyBoundary_of_exit hr hj hm hroom (repeatStep_of_none hk) hm)
  · exact leaves_of_none (keyBoundary_of_full hr hfull (repeatStep_of_none hk) hm)
  · exact leaves_of_none (keyBoundary_of_no_exit hr hj (repeatStep_of_counting hk hx hd hn))
  · exact leaves_of_one (keyBoundary_of_no_exit hr hj
      ((repeatStep_of_due hk hx hd hn.le).trans (repeatEvent_of_room hroom k)))
  · exact leaves_of_none (keyBoundary_of_no_exit hr hj
      ((repeatStep_of_due hk hx hd hn.le).trans (repeatEvent_of_full hfull k)))
  · rintro k x _ hr hj hm hk hx hd rfl
    have hdue' := fun hn => hrepeat k x hr hk hx hd hn
    have hexit := fun hroom {t} ht hmt => keyBoundary_of_exit (t := t) hr hj hm hroom ht hmt
    have hstay := fun hfull {t} ht hmt => keyBoundary_of_full (t := t) hr hfull ht hmt
    refine ⟨fun hn hroom => ?_, fun hn hfull => ?_, fun hn hlen hstaged => ⟨hdue' hn, ?_⟩,
      fun hn hroom hlen => ⟨hdue' hn, ?_⟩, fun hn hfull => ⟨hdue' hn, ?_⟩⟩
    · exact leaves_of_one (hexit hroom (repeatStep_of_counting (s := jamLeft _) hk hx hd hn) hm)
    · exact leaves_of_none (hstay hfull (repeatStep_of_counting hk hx hd hn) hm)
    · have hroom : canReserve (beforeKeys s) = true := by
        rw [canReserve_beforeKeys, canReserve, decide_eq_true_eq, staged]
        omega
      have hroom' : canReserve (jamLeft (beforeKeys s)) = true := by
        simp [canReserve_jamLeft, hlen, hstaged]
      exact leaves_of_two (hexit hroom ((repeatStep_of_due (s := jamLeft _) hk hx hd hn.le).trans
        (repeatEvent_of_room hroom' k)) hm)
    · have hfull' : canReserve (jamLeft (beforeKeys s)) = false := by
        simp only [canReserve_jamLeft, beforeKeys_queue, beforeKeys_staging, decide_eq_false_iff_not]
        omega
      exact leaves_of_one (hexit hroom ((repeatStep_of_due (s := jamLeft _) hk hx hd hn.le).trans
        (repeatEvent_of_full hfull' k)) hm)
    · exact leaves_of_none (hstay hfull
        ((repeatStep_of_due hk hx hd hn.le).trans (repeatEvent_of_full hfull k)) hm)

/-! ## The laws of the key scanner (R58, R59, R65, R73) -/

/-- The key table: one entry to each key, at most 8 DOWN, every count in its range (R58, R65). -/
structure TableLawful (t : List Key) : Prop where
  length : t.length = Config.keyCount
  downCount : t.countP (fun x => x.down) ≤ 8
  counts : ∀ x ∈ t, x.count ≤ 7

/-- The configuration in force: debounce scans, rollover limit, repeat delay and interval (R59). -/
structure ConfigLawful (debounce rollover delay interval : Nat) : Prop where
  debounce : 1 ≤ debounce ∧ debounce ≤ 7
  rollover : 2 ≤ rollover ∧ rollover ≤ 8
  delay : delay ≤ 255
  interval : 1 ≤ interval ∧ interval ≤ 255

/-- The repeat tracker: its ranges, at 0 with no key, its key DOWN, none while a drain runs (R58, R73). -/
structure TrackerLawful (t : List Key) (key : Option Nat) (frames repeats : Nat) (reset : KeyResetProgress) :
    Prop where
  frames_le : frames ≤ 255
  repeats_le : repeats ≤ 255
  untracked : key = none → frames = 0 ∧ repeats = 0
  tracked : ∀ k ∈ key, k < Config.keyCount ∧ (t.getD k Key.up).down = true
  draining : reset ≠ .idle → key = none

/-- The three parts of `KeyLaw` that are the key scanner's own. -/
structure KeyScanner.Lawful (ks : KeyScanner) : Prop where
  table : TableLawful ks.table
  config : ConfigLawful ks.debounce ks.rollover ks.repeatDelay ks.repeatInterval
  tracker : TrackerLawful ks.table ks.repeatKey ks.framesToRepeat ks.repeatCount ks.reset

/-- The latch holds only a config image that has passed its check (R102). -/
def HoldsChecked (l : TableLatch) : Prop := l.progress = .holding → checkConfig l.image = none

theorem keyLaw_iff (s : State) : KeyLaw s ↔ s.keys.Lawful ∧ HoldsChecked s.latch := by
  constructor
  · rintro ⟨hlen, hdown, hcounts, hd1, hd2, hr1, hr2, hdelay, hi1, hi2, hframes, hreps, hnone, hkey, hdrain, hlatch⟩
    exact ⟨⟨⟨hlen, hdown, hcounts⟩, ⟨⟨hd1, hd2⟩, ⟨hr1, hr2⟩, hdelay, ⟨hi1, hi2⟩⟩,
      ⟨hframes, hreps, hnone, hkey, hdrain⟩⟩, hlatch⟩
  · rintro ⟨⟨⟨hlen, hdown, hcounts⟩, ⟨⟨hd1, hd2⟩, ⟨hr1, hr2⟩, hdelay, ⟨hi1, hi2⟩⟩,
      ⟨hframes, hreps, hnone, hkey, hdrain⟩⟩, hlatch⟩
    exact ⟨hlen, hdown, hcounts, hd1, hd2, hr1, hr2, hdelay, hi1, hi2, hframes, hreps, hnone, hkey, hdrain, hlatch⟩

namespace KeyLaw

theorem keys {s : State} (h : KeyLaw s) : s.keys.Lawful := ((keyLaw_iff s).1 h).1

theorem latch {s : State} (h : KeyLaw s) : HoldsChecked s.latch := ((keyLaw_iff s).1 h).2

/-- The law looks at the key scanner and the latch only. -/
theorem same {s t : State} (h : KeyLaw s) (hkeys : t.keys = s.keys := by simp)
    (hlatch : t.latch = s.latch := by simp) : KeyLaw t := by
  rw [keyLaw_iff, hkeys, hlatch, ← keyLaw_iff]
  exact h

/-- The law looks at the latch only while it holds. -/
theorem notHolding {s t : State} (h : KeyLaw s) (hlatch : t.latch.progress ≠ .holding)
    (hkeys : t.keys = s.keys := by simp) : KeyLaw t := by
  rw [keyLaw_iff, hkeys]
  exact ⟨h.keys, fun hp => absurd hp hlatch⟩

theorem withKeys {s : State} (h : KeyLaw s) {ks : KeyScanner} (hks : ks.Lawful) : KeyLaw (s.withKeys ks) :=
  (keyLaw_iff _).2 ⟨hks, h.latch⟩

theorem stage {s : State} (h : KeyLaw s) (e : KeyEvent) : KeyLaw (stage e s) := h

end KeyLaw

/-! ### The table and the tracker -/

/-- One entry changes: a key that becomes DOWN is one of at most 8. -/
theorem TableLawful.set {t : List Key} (h : TableLawful t) {k : Nat} {x y : Key} (hx : t[k]? = some x)
    (hc : y.count ≤ 7) (hd : y.down = true → x.down = true ∨ t.countP (fun z => z.down) < 8) :
    TableLawful (t.set k y) := by
  refine ⟨by rw [List.length_set]; exact h.length, ?_, fun z hz => ?_⟩
  · have hcount := countP_down_set hx y
    have hle := h.downCount
    cases hy : y.down with
    | false =>
      simp only [hy, Bool.toNat_false] at hcount
      omega
    | true =>
      obtain hxd | hlt := hd hy
      · simp only [hy, hxd, Bool.toNat_true] at hcount
        omega
      · simp only [hy, Bool.toNat_true] at hcount
        omega
  · obtain hz | rfl := List.mem_or_eq_of_mem_set hz
    · exact h.counts z hz
    · exact hc

/-- Counts and held marks cleared, stable states kept (R74, R78). -/
theorem TableLawful.cleared {t : List Key} (h : TableLawful t) :
    TableLawful (t.map (fun x => { x with count := 0, held := false })) := by
  refine ⟨by rw [List.length_map]; exact h.length, ?_, List.forall_mem_map.2 fun _ _ => Nat.zero_le 7⟩
  rw [List.countP_map]
  exact h.downCount

namespace TrackerLawful

/-- A tracker that has been cleared. -/
theorem cleared {t : List Key} {r : KeyResetProgress} : TrackerLawful t none 0 0 r :=
  ⟨Nat.zero_le _, Nat.zero_le _, fun _ => ⟨rfl, rfl⟩, nofun, fun _ => rfl⟩

section
variable {t : List Key} {key : Option Nat} {frames repeats : Nat} {r : KeyResetProgress}

/-- With no key the tracker is at 0 whatever the table holds, whether a drain runs or not. -/
theorem of_none (h : TrackerLawful t key frames repeats r) (hkey : key = none) (t' : List Key)
    (r' : KeyResetProgress) : TrackerLawful t' key frames repeats r' := by
  obtain ⟨hf, hr⟩ := h.untracked hkey
  subst hkey hf hr
  exact cleared

/-- A drain that ends leaves the tracker as it was. -/
theorem idle (h : TrackerLawful t key frames repeats r) : TrackerLawful t key frames repeats .idle :=
  ⟨h.frames_le, h.repeats_le, h.untracked, h.tracked, fun hi => absurd rfl hi⟩

/-- The repeat key is a DOWN key of the table. -/
theorem down (h : TrackerLawful t key frames repeats r) {k : Nat} (hk : key = some k) :
    ∃ x, t[k]? = some x ∧ x.down = true := by
  obtain ⟨-, hdown⟩ := h.tracked k hk
  rw [List.getD_eq_getElem?_getD] at hdown
  cases hx : t[k]? with
  | none => simp [hx, Key.up] at hdown
  | some x => exact ⟨x, rfl, by simpa [hx] using hdown⟩

/-- One entry changes: the repeat key stays DOWN. -/
theorem set (h : TrackerLawful t key frames repeats r) {k : Nat} {x y : Key} (hx : t[k]? = some x)
    (hy : key = some k → x.down = true → y.down = true) : TrackerLawful (t.set k y) key frames repeats r := by
  refine ⟨h.frames_le, h.repeats_le, h.untracked, fun j hj => ⟨(h.tracked j hj).1, ?_⟩, h.draining⟩
  obtain ⟨z, hz, hzd⟩ := h.down hj
  rw [List.getD_eq_getElem?_getD, List.getElem?_set]
  split
  next hkj =>
    subst hkj
    obtain ⟨hlt, -⟩ := List.getElem?_eq_some_iff.1 hx
    rw [hx] at hz
    cases hz
    simpa [hlt] using hy hj hzd
  · simpa [hz] using hzd

/-- The tracker counts, with its key. -/
theorem counted (h : TrackerLawful t key frames repeats r) {k frames' repeats' : Nat} (hk : key = some k)
    (hf : frames' ≤ 255) (hr : repeats' ≤ 255) : TrackerLawful t key frames' repeats' r :=
  ⟨hf, hr, fun hn => by simp [hk] at hn, h.tracked, h.draining⟩

/-- The tracker takes a key just pressed (R72). -/
theorem taken {k delay : Nat} {x y : Key} (hx : t[k]? = some x) (hlen : t.length = Config.keyCount)
    (hy : y.down = true) (hd : delay ≤ 255) : TrackerLawful (t.set k y) (some k) delay 0 .idle := by
  obtain ⟨hlt, -⟩ := List.getElem?_eq_some_iff.1 hx
  refine ⟨hd, Nat.zero_le _, nofun, ?_, fun hi => absurd rfl hi⟩
  rintro _ ⟨⟩
  exact ⟨hlen ▸ hlt, by simp [List.getD_eq_getElem?_getD, hlt, hy]⟩

end

end TrackerLawful

/-! ### An observation (R60 to R68) -/

/-- The laws hold and no drain runs: what an observation finds and leaves. -/
def Observable (s : State) : Prop := KeyLaw s ∧ s.keys.reset = .idle

section
variable {s : State} {k : Nat} {x : Key}

/-- A key whose stable state stays has its count and held mark changed. -/
theorem observable_setKey (h : Observable s) (hx : s.keys.table[k]? = some x) {y : Key} (hc : y.count ≤ 7)
    (hd : y.down = x.down) : Observable (setKey k y s) := by
  obtain ⟨hlaw, hidle⟩ := h
  refine ⟨hlaw.withKeys ⟨hlaw.keys.table.set hx hc fun hy => .inl (hd ▸ hy), hlaw.keys.config,
    hlaw.keys.tracker.set hx fun _ hxd => hd.trans hxd⟩, hidle⟩

theorem observable_jamEntry (h : Observable s) : Observable (jamEntry s) := by
  cases hj : s.keys.jammed with
  | true => rwa [jamEntry_of_jammed hj]
  | false =>
    cases hroom : canReserve s with
    | false => rwa [jamEntry_of_full hroom]
    | true =>
      rw [jamEntry_of_room hj hroom]
      exact ⟨(h.1.stage _).withKeys ⟨h.1.keys.table, h.1.keys.config, h.1.keys.tracker⟩, h.2⟩

theorem observable_release (h : Observable s) (hx : s.keys.table[k]? = some x) (hd : x.down = true)
    (hroom : canReserve s = true) : Observable (acceptChange k s) := by
  obtain ⟨hlaw, hidle⟩ := h
  have htable : TableLawful (s.keys.table.set k ⟨false, 0, false⟩) :=
    hlaw.keys.table.set hx (Nat.zero_le 7) nofun
  rw [acceptChange_of_release hx hd hroom]
  refine ⟨(hlaw.stage _).withKeys ⟨htable, hlaw.keys.config, ?_⟩, hidle⟩
  by_cases hk : s.keys.repeatKey = some k
  · simpa only [if_pos hk] using TrackerLawful.cleared
  · simpa only [if_neg hk] using hlaw.keys.tracker.set hx fun hk' => absurd hk' hk

theorem observable_press (h : Observable s) (hx : s.keys.table[k]? = some x) (hd : x.down = false)
    (hlim : downCount s < s.keys.rollover) (hroom : canReserve s = true) : Observable (acceptChange k s) := by
  obtain ⟨hlaw, hidle⟩ := h
  have htable : TableLawful (s.keys.table.set k ⟨true, 0, false⟩) :=
    hlaw.keys.table.set hx (Nat.zero_le 7) fun _ => .inr (hlim.trans_le hlaw.keys.config.rollover.2)
  rw [acceptChange_of_press hx hd hlim hroom]
  refine ⟨(hlaw.stage _).withKeys ⟨htable, hlaw.keys.config, ?_⟩, hidle⟩
  by_cases hdelay : 0 < s.keys.repeatDelay
  · simpa only [if_pos hdelay, hidle] using
      TrackerLawful.taken (y := ⟨true, 0, false⟩) hx hlaw.keys.table.length rfl hlaw.keys.config.delay
  · simpa only [if_neg hdelay] using hlaw.keys.tracker.set (y := ⟨true, 0, false⟩) hx fun _ _ => rfl

theorem observable_acceptChange (h : Observable s) (hx : s.keys.table[k]? = some x) :
    Observable (acceptChange k s) := by
  have hcount : x.count ≤ 7 := h.1.keys.table.counts x (List.mem_of_getElem? hx)
  have hheld : Observable (setKey k { x with held := true } s) := observable_setKey h hx hcount rfl
  by_cases hover : x.down = false ∧ s.keys.rollover ≤ downCount s
  · rw [acceptChange_of_rollover hx hover.1 hover.2]
    exact observable_jamEntry
      ⟨hheld.1.withKeys ⟨hheld.1.keys.table, hheld.1.keys.config, hheld.1.keys.tracker⟩, hheld.2⟩
  · have hfits : x.down = true ∨ downCount s < s.keys.rollover := by
      cases hd : x.down with
      | true => exact .inl rfl
      | false => exact .inr (Nat.lt_of_not_le fun hle => hover ⟨hd, hle⟩)
    cases hroom : canReserve s with
    | false => rwa [acceptChange_of_full hx hfits hroom]
    | true =>
      cases hd : x.down with
      | true => exact observable_release h hx hd hroom
      | false => exact observable_press h hx hd (hfits.resolve_left (by simp [hd])) hroom

end

theorem observable_observeKey {s : State} (h : Observable s) {k : Nat} (hk : k < Config.keyCount) (down : Bool) :
    Observable (observeKey k down s) := by
  obtain ⟨x, hx⟩ : ∃ x, s.keys.table[k]? = some x :=
    ⟨_, List.getElem?_eq_getElem (h.1.keys.table.length ▸ hk)⟩
  have hcount : x.count ≤ 7 := h.1.keys.table.counts x (List.mem_of_getElem? hx)
  have hdebounce := h.1.keys.config.debounce.2
  by_cases hagree : down = x.down
  · rw [hagree, observeKey_of_agree hx]
    exact observable_setKey h hx (Nat.zero_le 7) rfl
  · rw [Bool.eq_not_of_ne hagree]
    by_cases hcounting : x.held = false ∧ x.count + 1 < s.keys.debounce
    · rw [observeKey_of_counting hx hcounting.1 hcounting.2]
      exact observable_setKey h hx (by simp only; omega) rfl
    · obtain ⟨c, hready, hc⟩ : ∃ c, ChangeReady s.keys.debounce x c ∧ c ≤ 7 := by
        cases hheld : x.held with
        | true => exact ⟨x.count, .inl ⟨hheld, rfl⟩, hcount⟩
        | false =>
          have hle : s.keys.debounce ≤ x.count + 1 := Nat.le_of_not_lt fun hlt => hcounting ⟨hheld, hlt⟩
          exact ⟨s.keys.debounce, .inr ⟨hheld, hle, rfl⟩, hdebounce⟩
      rw [observeKey_of_ready hx hready]
      exact observable_acceptChange (observable_setKey h hx hc rfl) (getElem?_setKey hx _)

theorem keyLaw_observe {s : State} (h : KeyLaw s) (grid : BitVec 4) (levels : BitVec 8) :
    KeyLaw (observe grid levels s) := by
  unfold observe
  split
  next hidle =>
    refine (List.foldlRecOn (motive := Observable) _ _ ⟨h, hidle⟩ fun t ht row hrow => ?_).1
    have hkey : grid.toNat * 8 + row < Config.keyCount := by
      have := List.mem_range.1 hrow
      have := grid.isLt
      simp only [Config.keyCount]
      omega
    exact observable_observeKey ht hkey _
  · exact h

theorem keyLaw_sampleSlot {s : State} (h : KeyLaw s) (levels : BitVec 8) : KeyLaw (sampleSlot levels s) := by
  unfold sampleSlot
  split
  · exact keyLaw_observe h _ _
  · exact h

/-! ### The boundary action (R70, R71, R73) -/

theorem keyLaw_jamExit {s : State} (h : KeyLaw s) : KeyLaw (jamExit s) := by
  by_cases hj : s.keys.jammed = true ∧ s.keys.refusalMark = false
  · cases hroom : canReserve s with
    | false => rwa [jamExit_of_full hroom]
    | true =>
      rw [jamExit_of_room hj.1 hj.2 hroom]
      exact (h.stage _).withKeys ⟨h.keys.table, h.keys.config, h.keys.tracker⟩
  · rwa [jamExit_of_not_due hj]

theorem keyLaw_repeatEvent {s : State} (h : KeyLaw s) {k : Nat} (hk : s.keys.repeatKey = some k) :
    KeyLaw (repeatEvent k s) := by
  have hinterval := h.keys.config.interval.2
  cases hroom : canReserve s with
  | false =>
    rw [repeatEvent_of_full hroom]
    exact h.withKeys ⟨h.keys.table, h.keys.config, h.keys.tracker.counted hk hinterval h.keys.tracker.repeats_le⟩
  | true =>
    rw [repeatEvent_of_room hroom]
    exact (h.stage _).withKeys
      ⟨h.keys.table, h.keys.config, h.keys.tracker.counted hk hinterval (Nat.min_le_right _ _)⟩

theorem keyLaw_repeatStep {s : State} (h : KeyLaw s) : KeyLaw (repeatStep s) := by
  cases hk : s.keys.repeatKey with
  | none => rwa [repeatStep_of_none hk]
  | some k =>
    obtain ⟨x, hx, hd⟩ := h.keys.tracker.down hk
    by_cases hn : s.keys.framesToRepeat ≤ 1
    · rw [repeatStep_of_due hk hx hd hn]
      exact keyLaw_repeatEvent h hk
    · rw [repeatStep_of_counting hk hx hd (Nat.lt_of_not_le hn)]
      exact h.withKeys ⟨h.keys.table, h.keys.config, h.keys.tracker.counted hk
        ((Nat.sub_le _ _).trans h.keys.tracker.frames_le) h.keys.tracker.repeats_le⟩

theorem keyLaw_keyBoundary {s : State} (h : KeyLaw s) : KeyLaw (keyBoundary s) := by
  by_cases hr : s.keys.reset = .idle
  · have hstep := keyLaw_repeatStep (keyLaw_jamExit h)
    rw [keyBoundary_of_idle hr]
    exact hstep.withKeys ⟨hstep.keys.table, hstep.keys.config, hstep.keys.tracker⟩
  · rwa [keyBoundary_of_draining hr]

theorem keyLaw_takeBoundary {s : State} (h : KeyLaw s) : KeyLaw (takeBoundary s) := by
  rw [takeBoundary_eq]
  exact keyLaw_keyBoundary (h.same (by simp [atBoundary]) (by simp [atBoundary]))

/-! ### The drain of KEY_RESET (R74 to R77) -/

theorem keyLaw_abortDrain {s : State} (h : KeyLaw s) : KeyLaw (abortDrain s) :=
  h.withKeys ⟨h.keys.table, h.keys.config, h.keys.tracker.idle⟩

theorem keyLaw_finishKeyReset {s : State} (h : KeyLaw s) : KeyLaw (finishKeyReset s) :=
  (keyLaw_abortDrain h).same (by simp [finishKeyReset, abortDrain]) (by simp [finishKeyReset])

theorem keyLaw_drainJam {s : State} (h : KeyLaw s) (hnone : s.keys.repeatKey = none) : KeyLaw (drainJam s) := by
  cases hj : s.keys.jammed with
  | false =>
    rw [drainJam_of_not_jammed hj]
    exact keyLaw_finishKeyReset h
  | true =>
    cases hroom : canReserve s with
    | false =>
      rw [drainJam_of_full hj hroom]
      exact h.withKeys ⟨h.keys.table, h.keys.config, h.keys.tracker.of_none hnone _ _⟩
    | true =>
      rw [drainJam_of_room hj hroom]
      exact keyLaw_finishKeyReset
        ((h.stage _).withKeys ⟨h.keys.table, h.keys.config, h.keys.tracker⟩)

theorem keyLaw_drainFrom {s : State} (h : KeyLaw s) (hnone : s.keys.repeatKey = none) (n k : Nat) :
    KeyLaw (drainFrom n k s) := by
  induction n generalizing k s with
  | zero => exact keyLaw_drainJam h hnone
  | succ n ih =>
    cases hd : (keyAt s k).down with
    | false =>
      rw [drainFrom_of_up hd]
      exact ih h hnone _
    | true =>
      have hx := getElem?_of_keyAt_down hd
      cases hroom : canReserve s with
      | false =>
        rw [drainFrom_of_full hx hd hroom]
        exact h.withKeys ⟨h.keys.table, h.keys.config, h.keys.tracker.of_none hnone _ _⟩
      | true =>
        have hcount := h.keys.table.counts _ (List.mem_of_getElem? hx)
        have hreleased : KeyScanner.Lawful { s.keys with
            table := s.keys.table.set k ⟨false, (keyAt s k).count, (keyAt s k).held⟩,
            released := s.keys.released + 1 } :=
          ⟨h.keys.table.set hx hcount nofun, h.keys.config, h.keys.tracker.of_none hnone _ _⟩
        rw [drainFrom_of_down hx hd hroom]
        exact ih ((h.stage _).withKeys hreleased) hnone _

theorem keyLaw_askDrain {s : State} (h : KeyLaw s) : KeyLaw (askDrain s) := by
  have hdraining := h.keys.tracker.draining
  unfold askDrain
  split
  · exact h
  next hr => exact keyLaw_drainFrom h (hdraining (by simp [hr])) _ _
  next hr => exact keyLaw_drainJam h (hdraining (by simp [hr]))

theorem lawful_clearDebounce {ks : KeyScanner} (h : ks.Lawful) : (clearDebounce ks).Lawful :=
  ⟨h.table.cleared, h.config, .cleared⟩

theorem keyLaw_beginKeyReset {s : State} (h : KeyLaw s) : KeyLaw (beginKeyReset s) :=
  keyLaw_askDrain (h.withKeys ⟨h.keys.table.cleared, h.keys.config, .cleared⟩)

/-! ### The scan engine and the fills -/

theorem keyLaw_endOnTime {s : State} (h : KeyLaw s) (levels : BitVec 8) : KeyLaw (endOnTime levels s) :=
  keyLaw_sampleSlot (s := s.withScan (gapEngine levels s.scan)) h levels

/-- RUNNING begins with the latch IDLE (R107). -/
theorem keyLaw_reportCurrent {s : State} (h : KeyLaw s) : KeyLaw (reportCurrent s) := by
  unfold reportCurrent
  split
  · exact h.notHolding (by simp [beginRunning, TableLatch.idle]) (by simp [beginRunning])
  · exact h

theorem keyLaw_readWord0 {s : State} (h : KeyLaw s) (n : Nat) (idx : PatternIndex) : KeyLaw (readWord0 n idx s) := by
  obtain heq | ⟨x, -, -, -, heq⟩ := readWord0_cases n idx s <;> rw [heq] <;> exact h

theorem keyLaw_placeWord1 {s : State} (h : KeyLaw s) (n : Nat) (idx : PatternIndex) :
    KeyLaw (placeWord1 n idx s) := by
  obtain heq | ⟨x, -, -, -, heq⟩ := placeWord1_cases n idx s <;> rw [heq] <;> exact h

theorem keyLaw_readWord1 {s : State} (h : KeyLaw s) (n : Nat) (idx : PatternIndex) : KeyLaw (readWord1 n idx s) := by
  have hplaced := keyLaw_placeWord1 h n idx
  have hnext : KeyLaw (if lineHasPin .next s.cache.lines n then reportNext (placeWord1 n idx s)
      else placeWord1 n idx s) := by
    split
    · exact hplaced.same
    · exact hplaced
  unfold readWord1
  dsimp only
  split
  · exact keyLaw_reportCurrent hnext
  · exact hnext

/-! ### The table latch (R97 to R107) -/

theorem keyLaw_latchFails {s : State} (h : KeyLaw s) (r : Result) (off : Nat) : KeyLaw (latchFails r off s) := by
  unfold latchFails
  dsimp only
  split
  · exact h.notHolding (by simp [TableLatch.idle])
  · exact h.notHolding (by simp [TableLatch.idle])

theorem keyLaw_watchWrite {s : State} (h : KeyLaw s) (off : Nat) : KeyLaw (watchWrite off s) := by
  unfold watchWrite
  split
  next hread =>
    split
    · exact h.notHolding (by simp [restartLatch, hread.1])
    · exact keyLaw_latchFails h _ _
  · exact h

@[simp] theorem acceptLength_keys (n : Nat) (s : State) : (acceptLength n s).keys = s.keys := by
  unfold acceptLength
  split <;> simp

/-- The key scanner's configuration of an image that has passed its check is in its ranges (R59, R102). -/
theorem lawful_latchedKeys {ks : KeyScanner} (h : ks.Lawful) {image : List Word} (hc : checkConfig image = none) :
    (latchedKeys ks image).Lawful :=
  ⟨h.table, ⟨checkWords_eq_none (k := 3) hc rfl, checkWords_eq_none (k := 6) hc rfl,
    (checkWords_eq_none (k := 4) hc rfl).2, checkWords_eq_none (k := 5) hc rfl⟩, h.tracker⟩

theorem keyLaw_takeForce {s : State} (h : KeyLaw s) {image : List Word} (hc : checkConfig image = none)
    (t : List RawRecord) : KeyLaw (takeForce image t s) :=
  (h.withKeys (lawful_latchedKeys h.keys hc)).notHolding (by simp [takeForce]) rfl

theorem keyLaw_latchSucceeds {s : State} (h : KeyLaw s) (hc : checkConfig s.latch.image = none) (n : Nat) :
    KeyLaw (latchSucceeds n s) := by
  have haccepted : KeyLaw (acceptLength n s) := h.same
  exact keyLaw_reportCurrent ((keyLaw_takeForce haccepted hc s.latch.table).same)

theorem keyLaw_holdLength {s : State} (h : KeyLaw s) (hc : checkConfig s.latch.image = none) :
    KeyLaw (holdLength s) := by
  have hholding : KeyLaw (s.withLatch { s.latch with progress := .holding }) :=
    (keyLaw_iff _).2 ⟨h.keys, fun _ => hc⟩
  unfold holdLength
  dsimp only
  split
  · exact keyLaw_latchSucceeds hholding hc _
  · exact hholding

theorem keyLaw_checkLatched {s : State} (h : KeyLaw s) : KeyLaw (checkLatched s) := by
  unfold checkLatched
  split
  · split
    · exact keyLaw_latchFails h _ _
    next hc =>
      split
      · exact keyLaw_latchFails h _ _
      · exact keyLaw_holdLength h hc
  · split
    · exact keyLaw_latchFails h _ _
    · exact h.notHolding (by simp [handOverTable, TableLatch.idle]) (by simp [handOverTable])

theorem keyLaw_settleLength {s : State} (h : KeyLaw s) : KeyLaw (settleLength s) := by
  unfold settleLength
  split
  · split
    next hs => exact keyLaw_latchSucceeds h (h.latch hs.2) _
    · exact h
  · exact h

theorem keyLaw_endLatchRead {s : State} (h : KeyLaw s) (off : Nat) : KeyLaw (endLatchRead off s) := by
  unfold endLatchRead
  dsimp only
  split
  next hp =>
    have hword : (latchWord off (windowWord s off) s.latch).progress = .reading := by
      unfold latchWord
      split <;> exact hp
    have hread : KeyLaw ((s.withArb { s.arb with port := .free }).withLatch
        (latchWord off (windowWord s off) s.latch)) := h.notHolding (by simp [hword])
    split
    · exact keyLaw_checkLatched hread
    · exact hread
  · exact h

/-! ### The write stage -/

theorem keyLaw_cellWritten {s : State} (h : KeyLaw s) (c : Cell) : KeyLaw (cellWritten c s) := by
  cases c with
  | command =>
    simp only [cellWritten, endCompleting]
    split
    · exact h.same
    · exact h
  | producer =>
    simp only [cellWritten, producerWritten]
    split
    · exact h.same
    · exact h
  | consumer =>
    simp only [cellWritten, consumerWritten]
    split
    · exact h.same
    · exact h
  | statusRecord | pending | shownBase | scanState => exact h

theorem keyLaw_completeRecord {s : State} (h : KeyLaw s) : KeyLaw (completeRecord s) := by
  have hproducer : KeyLaw (advanceProducer s) := h.same (by simp [advanceProducer]) (by simp [advanceProducer])
  exact keyLaw_askDrain (keyLaw_settleLength hproducer)

theorem keyLaw_endWrite {s : State} (h : KeyLaw s) (t : WriteTarget) (d : Word) (r : Bool) :
    KeyLaw (endWrite t d r s) := by
  have hstored : KeyLaw (partWritten t d s) := h
  unfold endWrite
  dsimp only
  split
  · split
    · exact hstored
    · exact keyLaw_cellWritten (by exact hstored) _
  · split <;> exact hstored
  · split
    · exact hstored
    · exact keyLaw_completeRecord (by exact hstored)

/-! ### Commands -/

theorem keyLaw_runStart {s : State} (h : KeyLaw s) : KeyLaw (runStart s) := by
  unfold runStart
  split
  · exact h.notHolding (by simp [beginLatch])
  all_goals exact h.same

theorem keyLaw_runStop {s : State} (h : KeyLaw s) : KeyLaw (runStop s) := by
  unfold runStop
  split
  · exact (h.withKeys (lawful_clearDebounce h.keys)).same (by simp [stopPanel]) (by simp [stopPanel])
  all_goals exact h.same

theorem keyLaw_runFlip {s : State} (h : KeyLaw s) : KeyLaw (runFlip s) := by
  unfold runFlip
  split
  · split <;> exact h.same
  all_goals exact h.same

theorem keyLaw_runReload {s : State} (h : KeyLaw s) : KeyLaw (runReload s) := by
  unfold runReload
  split
  · exact h.notHolding (by simp [beginLatch])
  all_goals exact h.same

/-- The panel-reset values keep the configuration in force, and are else those of a line reset (R79). -/
theorem lawful_keysPanelReset {ks : KeyScanner} (h : ks.Lawful) : (keysPanelReset ks).Lawful :=
  ⟨reset_keyLaw.keys.table, h.config, .cleared⟩

theorem keyLaw_resetPanel {s : State} (h : KeyLaw s) : KeyLaw (resetPanel s) :=
  (keyLaw_iff _).2 ⟨lawful_keysPanelReset h.keys, nofun⟩

theorem keyLaw_runCommand {s : State} (h : KeyLaw s) (code : Word) : KeyLaw (runCommand code s) := by
  unfold runCommand
  split
  · exact keyLaw_runStart h
  split
  · exact keyLaw_runStop h
  split
  · exact keyLaw_runFlip h
  split
  · exact keyLaw_runReload h
  split
  · exact h.same (by simp [runFlush]) (by simp [runFlush])
  split
  · exact keyLaw_beginKeyReset h
  split
  · exact (keyLaw_resetPanel h).same (by simp [runPanelReset, republish]) (by simp [runPanelReset, republish])
  split <;> exact h.same

theorem keyLaw_abortStart {s : State} (h : KeyLaw s) : KeyLaw (abortStart s) := by
  refine h.notHolding (by simp [abortStart, TableLatch.idle]) ?_
  unfold abortStart
  dsimp only
  split <;> simp

theorem keyLaw_endRunning {s : State} (h : KeyLaw s) : KeyLaw (endRunning s) := by
  unfold endRunning
  split
  · exact keyLaw_abortStart h
  split
  · split
    · exact h.notHolding (by simp [TableLatch.idle])
    · exact h.same
  split
  · exact keyLaw_abortDrain h
  · exact h

theorem keyLaw_abortRunning {s : State} (h : KeyLaw s) : KeyLaw (abortRunning s) :=
  (keyLaw_endRunning (s := s.withCmd { s.cmd with cellValue := 8 }) h).same
    (by simp [abortRunning]) (by simp [abortRunning])

theorem keyLaw_writeCommandCell {s : State} (h : KeyLaw s) (a : Nat) (l : Lanes) (d : Word) :
    KeyLaw (writeCommandCell a l d s) := by
  unfold writeCommandCell
  split
  · split
    · exact h
    · exact keyLaw_runCommand (by exact h) _
  · split
    · exact keyLaw_abortRunning (by exact h)
    · exact h.same
  · exact h.same

/-! ### Host cycles and RESET -/

theorem keyLaw_writeGlobalLevel {s : State} (h : KeyLaw s) (a : Nat) (l : Lanes) (d : Word) :
    KeyLaw (writeGlobalLevel a l d s) := by
  unfold writeGlobalLevel
  cases levelOfWrite l d with
  | none =>
    dsimp only
    split
    · exact keyLaw_watchWrite (by exact h) _
    · exact h
  | some v =>
    dsimp only
    split
    · exact keyLaw_watchWrite (by exact h) _
    · exact h

theorem keyLaw_writeConsumer {s : State} (h : KeyLaw s) (a : Nat) (l : Lanes) (d : Word) :
    KeyLaw (writeConsumer a l d s) := by
  unfold writeConsumer
  dsimp only
  split
  · exact keyLaw_askDrain h.same
  · exact h.same

theorem keyLaw_takeWrite {s : State} (h : KeyLaw s) (a : Nat) (l : Lanes) (d : Word) :
    KeyLaw (takeWrite a l d s) := by
  unfold takeWrite
  cases destination s a l with
  | plain | published | argument | pattern => exact h
  | command => exact keyLaw_writeCommandCell h a l d
  | pendingCell => exact h.same (by simp [writePending]) (by simp [writePending])
  | enableCell =>
    simp only [writeEnable]
    split <;> exact h
  | consumerCell => exact keyLaw_writeConsumer h a l d
  | globalLevel => exact keyLaw_writeGlobalLevel h a l d
  | watched => exact keyLaw_watchWrite (by exact h) _

theorem keyLaw_takeCycle {s : State} (h : KeyLaw s) (c : HostCycle) : KeyLaw (takeCycle c s) := by
  cases c with
  | read a l => exact h
  | write a l d => exact keyLaw_takeWrite h a l d

theorem keyLaw_presentCycle {s : State} (h : KeyLaw s) (c : HostCycle) : KeyLaw (presentCycle c s) := by
  unfold presentCycle
  split
  · cases c <;> exact h
  · split <;> exact h

/-! ### Every step -/

/-- Every happening keeps the laws of the key scanner. -/
theorem keyLaw_happening {s t : State} (h : KeyLaw s) (hh : Happening s t) : KeyLaw t := by
  cases hh with
  | nothing | readDiscarded | litEnded => exact h
  | partGranted | nextReported | slotStarted => exact h.same
  | resetAsserted => exact reset_keyLaw.same rfl rfl
  | resetReleased => exact h.same (by simp [initialPublication]) (by simp [initialPublication])
  | presented c => exact keyLaw_presentCycle h c
  | hostCycle c => exact keyLaw_takeCycle (s := grantHost s) h c
  | latchRead off => exact keyLaw_endLatchRead h off
  | writeDone t d r => exact keyLaw_endWrite h t d r
  | lengthSettled => exact keyLaw_settleLength h
  | word0Read n idx => exact keyLaw_readWord0 h n idx
  | word1Read n idx => exact keyLaw_readWord1 h n idx
  | currentReported => exact keyLaw_reportCurrent h
  | onTimeEnded sense => exact keyLaw_endOnTime h sense
  | boundary => exact keyLaw_takeBoundary h
  | drainAsked => exact keyLaw_askDrain h

/-- Settles O8: every happening of a row and every tick counted down keeps the laws of the key scanner. -/
theorem keysStayLawful : Obligations.KeysStayLawful := fun _ _ h hst =>
  step_keeps (fun _ _ h => h) (fun _ _ => keyLaw_happening) (fun _ _ _ _ h => h) h hst

end Sys2Proof.Machine
end

/-! PROOFS of the event queue's statements (O7, O25, O32, O44, O57, O59): every change keeps the queue's law; then what
a placed update, a consumer write and the end of a record's fourth word are, an equation each; then the START latch
that succeeds in the happening in which the queue accepts its length. -/

section
-- Proofs are elaborated one after another: in parallel their threads' stacks outgrow the checker's memory limit.
set_option Elab.async false

namespace Sys2Proof.Machine

/-! ## The law of the ring (R81 to R84) -/

/-- Settles O7: each change of the cache and each change beside it keeps the law. -/
theorem queueStaysWithinRing : Obligations.QueueStaysWithinRing := fun _ _ h hst =>
  step_keeps_of_changes (fun _ _ => queueLaw_aside) (fun _ _ => queueLaw_cacheStep) h hst

/-! ## Reservations (R82, R83) -/

/-- Settles O57: a reservation is granted exactly where the rule of R82 holds, and then stages its event. -/
theorem reservationStagesEvent : Obligations.ReservationStagesEvent := by
  intro s t e hlen
  have hroom : canReserve s = true ↔
      (s.queue.prod + s.queue.len - s.queue.cons) % s.queue.len + s.ws.staging.length ≤ s.queue.len - 2
        ∧ s.ws.staging.length ≤ 3 := by
    rw [canReserve, decide_eq_true_iff, queueCount, staged]
    omega
  rw [reserve_eq_some_iff, hroom, and_assoc]
  rfl

/-! ## Updates placed while the port is free -/

/-- With no entry of the cell there is no value to replace. -/
theorem replaceEntry_of_not_hasEntry {c : Cell} {us : List Entry} (h : hasEntry c us = false) (v : EntryValue) :
    replaceEntry c v us = us := by
  simp only [hasEntry, List.any_eq_false, decide_eq_true_eq] at h
  exact (List.map_congr_left fun e he => if_neg (h e he)).trans (List.map_id us)

/-- While the port is free, a mark of a replaced value has nothing to go to (R138). -/
theorem withArb_markReplaced_of_free {s : State} (h : s.arb.port = .free) (c : Cell) :
    s.withArb { s.arb with port := markReplaced c s.arb.port } = s := by
  obtain ⟨pass, ⟨n, m, p⟩, ws, cmd, latch, scan, cache, switch, keys, queue, events, mem, fc, pending⟩ := s
  cases h
  rfl

/-- While the port is free, a waiting value is replaced in the list and nothing else changes (R136). -/
theorem replaceWaiting_of_free {s : State} (h : s.arb.port = .free) (c : Cell) (v : EntryValue) :
    replaceWaiting c v s = s.withWs { s.ws with updates := replaceEntry c v s.ws.updates } := by
  unfold replaceWaiting
  split
  · exact withArb_markReplaced_of_free (s := s.withWs { s.ws with updates := replaceEntry c v s.ws.updates }) h c
  next hnone => rw [replaceEntry_of_not_hasEntry (by simpa using hnone)]; rfl

/-- While the port is free, an update is placed in the list and nothing else changes (R136). -/
theorem placeUpdate_of_free {s : State} (h : s.arb.port = .free) (c : Cell) (v : EntryValue) :
    placeUpdate c v s = s.withWs { s.ws with updates := placed c v s.ws.updates } := by
  unfold placeUpdate placed
  split
  · exact replaceWaiting_of_free h c v
  · rfl

theorem publish_of_free {s : State} (h : s.arb.port = .free) (c : Cell) :
    publish c s = s.withWs { s.ws with updates := placed c (.word (cellWord s c)) s.ws.updates } :=
  placeUpdate_of_free h c _

/-! ## Consumer writes (R87) -/

/-- CONSUMER_CELL_WRITE takes the granted write. -/
theorem exec_consumerCellWrite {s : State} {a : Nat} {l : Lanes} {d : Word} (h : WriteGranted s a l d .consumerCell) :
    exec .consumerCellWrite s = .next (writeConsumer a l d (grantHost s)) := by
  have hkind : isConsumerWrite a l d s = true := decide_eq_true h.2
  simp only [exec, execConsumerCellWrite, takeRow_of_writeGranted h hkind, takeWrite, destination_grantHost, h.2]

/-- Settles O25: the value the lanes form is judged, and a granted write finds the port free. -/
theorem consumerCellWriteIsJudged : Obligations.ConsumerCellWriteIsJudged := by
  rintro s a l d v hw rfl
  rw [exec_consumerCellWrite hw]
  have hjudged := decide_eq_true_iff (p := (mergeLanes l d (toWord s.queue.cons)).toNat < s.queue.len
    ∧ consumed s.queue (mergeLanes l d (toWord s.queue.cons)).toNat ≤ queueCount s.queue)
  refine ⟨fun hlt hle => ?_, fun hinvalid => ?_⟩
  · rw [writeConsumer, if_pos (by exact hjudged.2 ⟨hlt, hle⟩), replaceWaiting_of_free (by exact port_grantHost hw.1)]
    rfl
  · rw [writeConsumer, if_neg (by exact fun h => hinvalid (hjudged.1 h))]
    rfl

/-! ## FLUSH_QUEUE (R89) -/

/-- Settles O32: the command taken moves C to P; the consumer cell's write ends it. -/
theorem flushQueueEmptiesRing : Obligations.FlushQueueEmptiesRing := by
  refine fun s => ⟨fun a l d hw hidle => congrArg _ (takeRow_of_command hw hidle (by decide)),
    fun d hp hunit htaken => ?_⟩
  have hruns : flushRuns s = true := decide_eq_true ⟨hunit, htaken⟩
  have hstill : ∀ x, flushRuns ((cellStored s 0x01A d).withWs x) = true := fun _ => hruns
  have hend : endWrite (.cell .consumer) d false s = consumerWritten ((cellStored s 0x01A d).withWs
      { s.ws with updates := s.ws.updates.filter (fun e => e.cell ≠ .consumer) }) := rfl
  simp only [exec, execFlushQueueDone, hp, if_pos hruns, hend, consumerWritten, if_pos (hstill _)]
  rw [completeTaken_of_taken (by exact htaken)]

/-! ## Record completion (R85) -/

/-- The fourth word at ring position `p` has been written, `es` are the events left staged, P is advanced and its cell's
update placed (R85). -/
def recordCompleted (p : Nat) (d : Word) (es : List StagedEvent) (s : State) : State :=
  placeUpdate .producer (.word (BitVec.ofNat 16 ((s.queue.prod + 1) % s.queue.len)))
    (((cellStored s (0x206 + 8 * p) d).withWs { s.ws with staging := es, recordProgress := 0 }).withQueue
      { s.queue with prod := (s.queue.prod + 1) % s.queue.len, announce := true })

section
variable (p : Nat) (d : Word) (es : List StagedEvent) (s : State)

@[simp] theorem recordCompleted_latch : (recordCompleted p d es s).latch = s.latch := by
  simp [recordCompleted, cellStored, portFreed]
@[simp] theorem recordCompleted_scan : (recordCompleted p d es s).scan = s.scan := by
  simp [recordCompleted, cellStored, portFreed]
@[simp] theorem recordCompleted_keys : (recordCompleted p d es s).keys = s.keys := by
  simp [recordCompleted, cellStored, portFreed]
@[simp] theorem recordCompleted_acceptance :
    (recordCompleted p d es s).queue.acceptance = s.queue.acceptance := by simp [recordCompleted]
@[simp] theorem recordCompleted_staging : (recordCompleted p d es s).ws.staging = es := by simp [recordCompleted]

end

/-- The write that ended has freed the port, and placing the producer cell's update leaves it free. -/
theorem recordCompleted_port (p : Nat) (d : Word) (es : List StagedEvent) (s : State) :
    (recordCompleted p d es s).arb.port = .free := by
  rw [recordCompleted, placeUpdate_of_free (by rfl)]
  rfl

/-- The end of a record's fourth word: the record is complete, a waiting length is settled, a waiting drain asks. -/
theorem endWrite_fourthWord {s : State} {e : StagedEvent} {es : List StagedEvent} (hs : s.ws.staging = e :: es)
    (p : Nat) (d : Word) (r : Bool) :
    endWrite (.record p 3) d r s = askDrain (settleLength (recordCompleted p d es s)) := by
  have hstored : storeTarget (.record p 3) d (portFreed s) = cellStored s (0x206 + 8 * p) d := by
    have hoff : targetOffset (.record p 3) = 0x206 + 8 * p := by
      simp only [targetOffset, Config.ringBase]
      omega
    rw [storeTarget, hoff]
    rfl
  have hend : endWrite (.record p 3) d r s = completeRecord (storeTarget (.record p 3) d (portFreed s)) := rfl
  have hadvanced : advanceProducer (cellStored s (0x206 + 8 * p) d) = recordCompleted p d s.ws.staging.tail s := rfl
  rw [hend, hstored, completeRecord, hadvanced, hs, List.tail_cons]

theorem settleLength_of_none {s : State} (h : s.queue.acceptance = none) : settleLength s = s := by
  simp only [settleLength, h]

theorem askDrain_of_idle {s : State} (h : s.keys.reset = .idle) : askDrain s = s := by
  simp only [askDrain, h]

/-- Settles O59: the end of a fourth word completes its record; that of the producer cell's write announces. -/
theorem recordCompletionAdvancesProducer : Obligations.RecordCompletionAdvancesProducer := by
  refine fun s d => ⟨fun p r e es hp hs hacc t ht => ?_, fun t hp ht => ?_⟩
  · obtain rfl : t = recordCompleted p d es s := ht
    have hcomplete : exec .recordComplete s = .next (askDrain (recordCompleted p d es s)) := by
      simp only [exec, execRecordComplete, hp]
      rw [endWrite_fourthWord hs, settleLength_of_none (by simpa using hacc)]
    refine ⟨fun hidle => ?_, fun _ => hcomplete, ?_⟩
    · rw [hcomplete, askDrain_of_idle (by simpa using hidle)]
    · simp only [exec, execWriteStageWriteDone, execRecordComplete, hp]
  · have hend : endWrite (.cell .producer) d false s = producerWritten t := by rw [ht]; rfl
    have hann : t.queue = s.queue := by rw [ht]; rfl
    have hdone : exec .writeStageWriteDone s = .next (producerWritten t) := by
      simp only [exec, execWriteStageWriteDone, hp, hend]
    refine ⟨fun h => ?_, fun h => ?_⟩
    · have hdata : exec .queueData s = .next (producerWritten t) := by
        simp only [exec, execQueueData, hp, if_pos h, hend]
      refine ⟨?_, hdone.trans hdata.symm⟩
      rw [hdata, producerWritten, hann, if_pos h]
    · rw [hdone, producerWritten, hann, if_neg (by simp [h])]

/-! ## The START latch takes force (R91, R105, R107) -/

/-- The state in which the warm-up of a START latch begins: the length accepted, the latched values in force and
published, CURRENT set on the first frame's indices (R91, R105, R107). -/
def warmingUp (n : Nat) (s : State) : State :=
  let s₂ := publish .shownBase (publish .scanState (takeForce s.latch.image s.latch.table (acceptLength n s)))
  setPins .current (indexSet s₂.scan.table s₂.scan.frameBase) s₂

theorem latchSucceeds_eq (n : Nat) (s : State) : latchSucceeds n s = reportCurrent (warmingUp n s) := rfl

/-- The queue's acceptance of a length while the port is free: another length empties the ring (R91). -/
theorem acceptLength_of_free {s : State} (h : s.arb.port = .free) (n : Nat) :
    acceptLength n s = (s.withQueue { s.queue with
        len := n, prod := if n = s.queue.len then s.queue.prod else 0,
        cons := if n = s.queue.len then s.queue.cons else 0, acceptance := none }).withWs
      { s.ws with updates :=
        (if n = s.queue.len then s
        else placeUpdate .consumer (.word 0) (placeUpdate .producer (.word 0) s)).ws.updates } := by
  unfold acceptLength
  split
  next heq => rw [heq]; rfl
  next hne =>
    rw [publish_of_free (c := .producer) (by exact h), publish_of_free (by exact h), placeUpdate_updates,
      placeUpdate_updates]
    rfl

/-- The scan engine's two cells published while the port is free. -/
theorem publish_shownBase_scanState_of_free {s : State} (h : s.arb.port = .free) :
    publish .shownBase (publish .scanState s) = s.withWs { s.ws with
      updates :=
        placed .shownBase (.word (shownBaseWord s)) (placed .scanState (.word (scanStateWord s)) s.ws.updates) } := by
  rw [publish_of_free h, publish_of_free (by exact h)]
  rfl

/-- An accepted frame base fits its 9 bits: the shown base cell carries it as latched (R2, R102). -/
theorem setWidth_ofNat_of_lt {w : Word} (h : w.toNat < 512) : (BitVec.ofNat 9 w.toNat).setWidth 16 = w := by
  apply BitVec.eq_of_toNat_eq
  simp only [BitVec.toNat_setWidth, BitVec.toNat_ofNat]
  omega

/-- A list of twelve words, word by word. -/
theorem exists_words_of_length {image : List Word} (h : image.length = 12) :
    ∃ w0 w1 w2 w3 w4 w5 w6 w7 w8 w9 w10 w11, image = [w0, w1, w2, w3, w4, w5, w6, w7, w8, w9, w10, w11] := by
  match image, h with
  | [w0, w1, w2, w3, w4, w5, w6, w7, w8, w9, w10, w11], _ =>
    exact ⟨w0, w1, w2, w3, w4, w5, w6, w7, w8, w9, w10, w11, rfl⟩

/-- The accepted value of a configuration word (R102). -/
theorem ConfigWordAccepted.bounds {image : List Word} {k lo hi : Nat} {w : Word} (h : ConfigWordAccepted image k)
    (hk : acceptedValues[k]? = some (lo, hi)) (hw : image[k]? = some w) : lo ≤ w.toNat ∧ w.toNat ≤ hi := by
  obtain ⟨lo', hi', w', hk', hw', hlo, hhi⟩ := h
  cases hk.symm.trans hk'
  cases hw.symm.trans hw'
  exact ⟨hlo, hhi⟩

/-- A report in STARTING begins RUNNING exactly when a table is in force and every CURRENT line is VALID (R4, R37). -/
theorem reportCurrent_of_starting {s : State} (h : s.scan.state = .starting) :
    reportCurrent s =
      if s.scan.table ≠ [] ∧ ∀ x ∈ s.cache.lines, x.current = true → x.state = .valid then beginRunning s
      else s := by
  simp only [reportCurrent, currentResident_iff, h, true_and]

/-- RUNNING begins: the scan state is published with the slots in force, START completes with the restart count, slot 0
starts (R4, R107). -/
theorem beginRunning_eq {s : State} {slots restarts : Nat} (hslots : s.scan.table.length = slots)
    (hrestarts : s.latch.restarts = restarts) :
    beginRunning s = startSlot 0 (completeTaken .done (BitVec.ofNat 16 restarts)
      (placeUpdate .scanState (.word (joinBytes (BitVec.ofNat 8 slots) 2))
        ((s.withLatch ⟨.idle, .start, 0, [], [], []⟩).withScan { s.scan with
          state := .running, frameCounter := 0, globalLevel := s.scan.pendingLevel, slotIndex := 0,
          phase := .boundaryTaken, ticksRemaining := 0 }))) := by
  subst hslots hrestarts
  rfl

@[simp] theorem reportCurrent_keys (s : State) : (reportCurrent s).keys = s.keys := by
  unfold reportCurrent
  split <;> simp [beginRunning]

@[simp] theorem acceptLength_scan (n : Nat) (s : State) : (acceptLength n s).scan = s.scan := by
  unfold acceptLength
  split <;> simp

@[simp] theorem warmingUp_scan (n : Nat) (s : State) :
    (warmingUp n s).scan = latchedScan s.scan s.latch.image s.latch.table := by
  simp [warmingUp, takeForce]

@[simp] theorem warmingUp_keysReset (n : Nat) (s : State) : (warmingUp n s).keys.reset = s.keys.reset := by
  simp [warmingUp, takeForce, latchedKeys]

@[simp] theorem warmingUp_restarts (n : Nat) (s : State) : (warmingUp n s).latch.restarts = s.latch.restarts := by
  simp [warmingUp, takeForce]

/-- A START latch that succeeds while the port is free leaves what R105 and R107 say, whatever length it accepts. -/
theorem latchedInForce_latchSucceeds {s : State} {w : Word} (hfree : s.arb.port = .free)
    (hst : s.scan.state = .starting) (hpurpose : s.latch.purpose = .start) (hlen : s.latch.image.length = 12)
    (hw : s.latch.image[8]? = some w) (hconfig : ConfigPasses s.latch) :
    LatchedInForce s (latchSucceeds w.toNat s) s.latch.image s.latch.table := by
  obtain ⟨w0, w1, w2, w3, w4, w5, w6, w7, w8, w9, w10, w11, himage⟩ := exists_words_of_length hlen
  obtain rfl : w8 = w := by simpa [himage] using hw
  have hbase : w11.toNat < 512 := by
    obtain hreload | ⟨-, haccepted⟩ := hconfig
    · simp [hpurpose] at hreload
    · have := ((haccepted 11 (by decide)).bounds rfl (by rw [himage]; rfl)).2
      omega
  refine ⟨w0, w1, w2, w3, w4, w5, w6, w7, w8, w9, w10, w11, warmingUp w8.toNat s, himage, ?_, ?_⟩
  · have hforce : (takeForce s.latch.image s.latch.table (acceptLength w8.toNat s)).arb.port = .free := by
      rw [acceptLength_of_free hfree]
      exact hfree
    have hshown : shownBaseWord (takeForce s.latch.image s.latch.table (acceptLength w8.toNat s)) = w11 := by
      rw [himage]
      exact setWidth_ofNat_of_lt hbase
    have hscan : scanStateWord (takeForce s.latch.image s.latch.table (acceptLength w8.toNat s))
        = joinBytes (BitVec.ofNat 8 s.latch.table.length) 1 := by
      simp [scanStateWord, takeForce, latchedScan, hst, scanStateCode]
    have hclosed : decide (w7 = 1) = decide (w7.toNat = 1) := decide_eq_decide.2 (BitVec.toNat_inj (y := 1)).symm
    rw [warmingUp, publish_shownBase_scanState_of_free hforce, hshown, hscan, acceptLength_of_free hfree, himage,
      placeUpdate_updates, placeUpdate_updates, hclosed, ← hpurpose]
    rfl
  · have hstarting : (warmingUp w8.toNat s).scan.state = .starting := by simpa [latchedScan] using hst
    have hslots : (warmingUp w8.toNat s).scan.table.length = s.latch.table.length := by simp [latchedScan]
    have htable : (warmingUp w8.toNat s).scan.table ≠ [] ↔ s.latch.table ≠ [] := by simp [latchedScan]
    rw [latchSucceeds_eq, reportCurrent_of_starting hstarting, beginRunning_eq hslots (warmingUp_restarts _ s)]
    simp only [htable]

/-- Settles O44: the record's end empties the staging list, so the waiting length is accepted and the latch succeeds. -/
theorem lengthAcceptedAtLastRecord : Obligations.LengthAcceptedAtLastRecord := by
  intro s e p d w r hp hs hholding hpurpose hlen hw hacc _ hst hidle hconfig
  have hend : exec .lengthAccepted s = .next (askDrain (settleLength (recordCompleted p d [] s))) := by
    simp only [exec, execLengthAccepted, hacc, hp, hs, List.length_singleton, if_true]
    rw [endWrite_fourthWord hs]
  have hsettled : settleLength (recordCompleted p d [] s) = latchSucceeds w.toNat (recordCompleted p d [] s) := by
    simp [settleLength, hacc, hholding]
  have hundrained : (latchSucceeds w.toNat (recordCompleted p d [] s)).keys.reset = .idle := by
    simpa [latchSucceeds_eq] using hidle
  have hforce := latchedInForce_latchSucceeds (recordCompleted_port p d [] s) (by simpa using hst)
    (by simpa using hpurpose) (by simpa using hlen) (by simpa using hw) (by simpa using hconfig)
  rw [recordCompleted_latch] at hforce
  exact ⟨_, by rw [hend, hsettled, askDrain_of_idle hundrained], hforce⟩

end Sys2Proof.Machine
end

/-! PROOFS of the table latch's statements (O28, O41, O42, O43, O45): what a write of a watched word does; then the read
that ends, an equation per place its word has; then the checks, which skip whatever passes; then the checked latch. -/

section
-- Proofs are elaborated one after another: in parallel their threads' stacks outgrow the checker's memory limit.
set_option Elab.async false

namespace Sys2Proof.Machine

/-! ## Torn reads (R99, R100) -/

/-- Only a latch that reads watches words (R99). -/
theorem destinationOfOffset_none_ne_watched (off off' : Nat) : destinationOfOffset none off ≠ .watched off' := by
  unfold destinationOfOffset
  intro h
  iterate 7 replace h := eq_of_ite_eq h nofun
  iterate 3 replace h := eq_of_ite_eq h (by simp)
  cases h

theorem reading_of_destination_watched {s : State} {a off : Nat} {l : Lanes} (h : destination s a l = .watched off) :
    s.latch.progress = .reading := by
  unfold destination at h
  split at h
  · cases hr : readingPurpose s with
    | none => exact absurd (hr ▸ h) (destinationOfOffset_none_ne_watched _ _)
    | some p => exact ((readingPurpose_eq_some_iff s p).1 hr).1
  · cases h

/-- TABLE_WRITE takes the granted write: it reaches memory and the latch judges it. -/
theorem exec_tableWrite {s : State} {a off : Nat} {l : Lanes} {d : Word} (h : WriteGranted s a l d (.watched off)) :
    exec .tableWrite s = .next (watchWrite off (written s a l d)) := by
  have hkind : isWatchedWrite a l d s = true := by simp only [isWatchedWrite, h.2]
  simp only [exec, execTableWrite, takeRow_of_writeGranted h hkind, takeWrite, destination_grantHost, h.2]
  rfl

/-- A RELOAD latch that fails leaves the scan engine and the frame in force as they were (R104). -/
theorem latchFails_of_reload {s : State} (r : Result) (off : Nat) (hp : s.latch.purpose = .reload) :
    latchFails r off s = completeTaken r (toWord off) (s.withLatch .idle) := by
  simp only [latchFails, hp]

/-- Settles O28: a watched write finds the latch reading, so it is judged by the words read and the restarts. -/
theorem tableWriteTearsLatch : Obligations.TableWriteTearsLatch := by
  intro s a l d off hw
  have hreading : (written s a l d).latch.progress = .reading := reading_of_destination_watched hw.2
  rw [exec_tableWrite hw]
  refine ⟨fun hunread => ?_, fun hread hr => ?_, fun hread hr hp => ?_, fun hread hr hp => ?_⟩
  · exact congrArg _ (watchWrite_of_unread fun h => hunread h.2)
  · rw [watchWrite_of_restart hreading (by exact hread) (by exact hr)]
    rfl
  · rw [watchWrite_of_unstable hreading (by exact hread) (by exact hr), latchFails_of_start _ _ (by exact hp)]
    rfl
  · rw [watchWrite_of_unstable hreading (by exact hread) (by exact hr), latchFails_of_reload _ _ (by exact hp)]
    rfl

/-! ## A read that ends (R97, R98) -/

/-- LATCH_READ_COMPLETE with a latch read under way is the end of that read. -/
theorem exec_latchReadComplete {s : State} {off : Nat} (h : s.arb.port = .latch off) :
    exec .latchReadComplete s = .next (endLatchRead off s) := by
  simp only [exec, execLatchReadComplete, h]

theorem modifyLast_append_singleton (f : RawRecord → RawRecord) (rs : List RawRecord) (r : RawRecord) :
    modifyLast f (rs ++ [r]) = rs ++ [f r] := by
  induction rs with
  | nil => rfl
  | cons x xs ih =>
    obtain ⟨y, ys, hxs⟩ : ∃ y ys, xs ++ [r] = y :: ys := List.exists_cons_of_ne_nil (by simp)
    simp only [List.cons_append, ← ih, hxs, modifyLast]

section
variable {off : Nat} (w : Word) (l : TableLatch)

/-- A configuration word joins the config image. -/
theorem latchWord_config (h : off < 0x100) :
    latchWord off w l = { l with wordsRead := l.wordsRead ++ [off], image := l.image ++ [w] } := if_pos h

/-- Word +0 of a record begins the record. -/
theorem latchWord_word0 (h : 0x100 ≤ off) (hplace : off % 8 = 0) :
    latchWord off w l = { l with
      wordsRead := l.wordsRead ++ [off], table := l.table ++ [⟨lowByte w, highByte w, 0, 0⟩] } := by
  simp only [latchWord, Config.tableBase, if_neg (Nat.not_lt.2 h), placeRecordWord, hplace, if_true]

variable {l} {rs : List RawRecord} {r : RawRecord}

/-- Word +2 is the last record's pattern offset. -/
theorem latchWord_word2 (h : 0x100 ≤ off) (hplace : off % 8 = 2) (ht : l.table = rs ++ [r]) :
    latchWord off w l = { l with
      wordsRead := l.wordsRead ++ [off], table := rs ++ [{ r with offset := w }] } := by
  simp only [latchWord, Config.tableBase, if_neg (Nat.not_lt.2 h), placeRecordWord, hplace, ht,
    modifyLast_append_singleton]
  rfl

/-- Word +4 is the last record's on-time. -/
theorem latchWord_word4 (h : 0x100 ≤ off) (hplace : off % 8 = 4) (ht : l.table = rs ++ [r]) :
    latchWord off w l = { l with
      wordsRead := l.wordsRead ++ [off], table := rs ++ [{ r with onTime := w }] } := by
  simp only [latchWord, Config.tableBase, if_neg (Nat.not_lt.2 h), placeRecordWord, hplace, ht,
    modifyLast_append_singleton]
  rfl

end

/-- Only the third word of a record can complete the read order. -/
theorem readsComplete_of_not_third {off : Nat} (l : TableLatch) (h : ¬ (0x100 ≤ off ∧ off % 8 = 4)) :
    ¬ readsComplete off l = true := by
  rw [not_and_or] at h
  obtain h | h := h <;> simp [readsComplete, Config.tableBase, h]

/-- A third word completes the read order when its record carries the last mark or is record 23. -/
theorem readsComplete_latchWord_word4 {off : Nat} (w : Word) {l : TableLatch} {rs : List RawRecord} {r : RawRecord}
    (h : 0x100 ≤ off) (hplace : off % 8 = 4) (ht : l.table = rs ++ [r]) :
    readsComplete off (latchWord off w l) = true ↔ r.flags.getLsbD 1 = true ∨ rs.length = 23 := by
  rw [latchWord_word4 w h hplace ht]
  simp [readsComplete, Config.tableBase, Config.maxRecords, h, hplace, lastMark, or_comm]

/-- The end of a read that leaves the read order incomplete is its word placed. -/
theorem endLatchRead_of_incomplete {s : State} {off : Nat} (hp : s.latch.progress = .reading)
    (hrest : ¬ readsComplete off (latchWord off (windowWord s off) s.latch) = true) :
    endLatchRead off s = (portFreed s).withLatch (latchWord off (windowWord s off) s.latch) := by
  simp only [endLatchRead, hp, hrest, if_true]
  rfl

/-- The read that completes the read order places its word, and the checks are made in the same happening (6.4). -/
theorem endLatchRead_of_complete {s : State} {off : Nat} (hp : s.latch.progress = .reading)
    (hlast : readsComplete off (latchWord off (windowWord s off) s.latch) = true) :
    endLatchRead off s = checkLatched ((portFreed s).withLatch (latchWord off (windowWord s off) s.latch)) := by
  simp only [endLatchRead, hp, hlast, if_true]
  rfl

/-- Settles O41: each word has its place, and none of these completes the read order. -/
theorem latchReadPlacesWord : Obligations.LatchReadPlacesWord := by
  rintro s off w hport rfl
  rw [exec_latchReadComplete hport]
  refine ⟨fun hp => ?_, fun hp hoff => ?_, fun hp hoff hplace => ?_, fun rs r hp hoff hplace ht => ?_,
    fun rs r hp hoff hplace ht hmark hlen => ?_⟩
  · exact congrArg _ (if_neg hp)
  · rw [endLatchRead_of_incomplete hp (readsComplete_of_not_third _ (by omega)), latchWord_config _ _ hoff]
    rfl
  · rw [endLatchRead_of_incomplete hp (readsComplete_of_not_third _ (by omega)), latchWord_word0 _ _ hoff hplace]
    rfl
  · rw [endLatchRead_of_incomplete hp (readsComplete_of_not_third _ (by omega)), latchWord_word2 _ hoff hplace ht]
    rfl
  · have hrest : ¬ (r.flags.getLsbD 1 = true ∨ rs.length = 23) := not_or.2 ⟨Bool.eq_false_iff.1 hmark, hlen⟩
    rw [endLatchRead_of_incomplete hp ((readsComplete_latchWord_word4 _ hoff hplace ht).not.2 hrest),
      latchWord_word4 _ hoff hplace ht]
    rfl

theorem LastRead.exec_eq {s : State} {off : Nat} {l : TableLatch} (h : LastRead s off l) :
    exec .latchReadComplete s = .next (checkLatched ((portFreed s).withLatch l)) := by
  obtain ⟨hport, hp, hoff, hplace, rs, r, ht, hlast, rfl⟩ := h
  rw [exec_latchReadComplete hport,
    endLatchRead_of_complete hp ((readsComplete_latchWord_word4 _ hoff hplace ht).2 hlast),
    latchWord_word4 _ hoff hplace ht]
  rfl

/-! ## The checks (R102, R103) -/

/-- Word `k` of an image lies in its range of a table of ranges (R102). -/
def WordInRange (ranges : List (Nat × Nat)) (image : List Word) (k : Nat) : Prop :=
  ∃ lo hi w, ranges[k]? = some (lo, hi) ∧ image[k]? = some w ∧ lo ≤ w.toNat ∧ w.toNat ≤ hi

theorem configWordAccepted_iff (image : List Word) (k : Nat) :
    ConfigWordAccepted image k ↔ WordInRange configRanges image k := Iff.rfl

/-- The check passes over the words that lie in their ranges. -/
theorem checkWords_of_inRange {ranges : List (Nat × Nat)} {image : List Word} (off : Nat) {k : Nat}
    (h : ∀ j < k, WordInRange ranges image j) :
    checkWords ranges image off = checkWords (ranges.drop k) (image.drop k) (off + 2 * k) := by
  induction k with
  | zero => rfl
  | succ k ih =>
    obtain ⟨lo, hi, w, hrange, hword, hw⟩ := h k k.lt_succ_self
    rw [ih fun j hj => h j (Nat.lt_succ_of_lt hj), List.drop_eq_getElem?_toList_append,
      List.drop_eq_getElem?_toList_append (l := image), hrange, hword]
    exact if_pos hw

/-- A check that meets a word outside its range ends there. -/
theorem checkWords_of_not_inRange {ranges : List (Nat × Nat)} {image : List Word} (off : Nat)
    (hne : ranges ≠ []) (h : ¬ WordInRange ranges image 0) : checkWords ranges image off = some off := by
  match ranges, image with
  | [], _ => exact absurd rfl hne
  | _ :: _, [] => rfl
  | (lo, hi) :: _, w :: _ => exact if_neg fun hw => h ⟨lo, hi, w, rfl, rfl, hw⟩

/-- The config image fails at its first word that is not accepted. -/
theorem checkConfig_of_first_fault {image : List Word} {k : Nat} (hk : k < 12)
    (hpass : ∀ j < k, ConfigWordAccepted image j) (hfault : ¬ ConfigWordAccepted image k) :
    checkConfig image = some (0x020 + 2 * k) := by
  have hrest : configRanges.drop k ≠ [] := List.drop_eq_nil_iff.not.2 (Nat.not_le.2 hk)
  rw [checkConfig, checkWords_of_inRange (ranges := configRanges) _ hpass]
  refine checkWords_of_not_inRange _ hrest fun hin => hfault ?_
  simpa only [configWordAccepted_iff, WordInRange, List.getElem?_drop, Nat.add_zero] using hin

theorem checkConfig_of_accepted {image : List Word} (h : ∀ k < 12, ConfigWordAccepted image k) :
    checkConfig image = none := checkWords_of_inRange Config.configBase h

/-- The sense grids of the records before record `i`, the latest first. -/
def senseGrids (t : List RawRecord) (i : Nat) : List Byte :=
  (((t.take i).filter senseMark).map RawRecord.grid).reverse

theorem mem_senseGrids {t : List RawRecord} {i : Nat} {g : Byte} :
    g ∈ senseGrids t i ↔ ∃ q ∈ t.take i, q.flags.getLsbD 0 = true ∧ q.grid = g := by
  simp [senseGrids, senseMark, and_assoc]

theorem senseGrids_succ {t : List RawRecord} {i : Nat} {r : RawRecord} (h : t[i]? = some r) :
    senseGrids t (i + 1) = if senseMark r then r.grid :: senseGrids t i else senseGrids t i := by
  rw [senseGrids, List.take_add_one, h]
  cases hr : senseMark r <;> simp [senseGrids, hr]

/-- The check of a record against the sense grids before it is the table of R103. -/
theorem checkRecord_senseGrids (t : List RawRecord) (i : Nat) (r : RawRecord) :
    checkRecord r (senseGrids t i) (0x100 + 8 * i) = recordFault t i r := by
  have hoffset : 0x100 + 8 * i + 2 = 0x102 + 8 * i := by omega
  have honTime : 0x100 + 8 * i + 4 = 0x104 + 8 * i := by omega
  simp only [checkRecord, recordFault, mem_senseGrids, senseMark, hoffset, honTime]

/-- The check passes over the records that pass. -/
theorem checkTable_of_passing {t : List RawRecord} {i : Nat} (hi : i ≤ t.length)
    (h : ∀ j q, j < i → t[j]? = some q → recordFault t j q = none) :
    checkTable t = checkRecordsFrom (t.drop i) (senseGrids t i) (0x100 + 8 * i) := by
  induction i with
  | zero => rfl
  | succ i ih =>
    have hr : t[i]? = some t[i] := List.getElem?_eq_getElem hi
    rw [ih (Nat.le_of_succ_le hi) fun j q hj => h j q (Nat.lt_succ_of_lt hj), List.drop_eq_getElem_cons hi,
      checkRecordsFrom, checkRecord_senseGrids, h i _ i.lt_succ_self hr, senseGrids_succ hr]
    rfl

/-- The pending table fails at its first record that fails, with that record's fault. -/
theorem checkTable_of_first_fault {t : List RawRecord} {i bad : Nat} {r : RawRecord}
    (hpass : ∀ j q, j < i → t[j]? = some q → recordFault t j q = none) (hr : t[i]? = some r)
    (hfault : recordFault t i r = some bad) : checkTable t = some bad := by
  obtain ⟨hi, rfl⟩ := List.getElem?_eq_some_iff.1 hr
  rw [checkTable_of_passing hi.le hpass, List.drop_eq_getElem_cons hi, checkRecordsFrom, checkRecord_senseGrids, hfault]

theorem checkTable_of_passes {t : List RawRecord} (h : TablePasses t) : checkTable t = none := by
  rw [checkTable_of_passing t.length.le_refl fun j q _ => h j q, List.drop_length]
  rfl

/-! ## The checked latch (R104 to R107) -/

/-- A START latch whose config image fails, fails; no record is looked at. -/
theorem checkLatched_of_configFault {s : State} {bad : Nat} (hp : s.latch.purpose = .start)
    (h : checkConfig s.latch.image = some bad) : checkLatched s = latchFails .configError bad s := by
  simp only [checkLatched, hp, h]

/-- A latch whose configuration passes is judged by its table. -/
theorem checkLatched_of_configPasses {s : State} (h : ConfigPasses s.latch) :
    checkLatched s = (checkTable s.latch.table).elim
      (if s.latch.purpose = .start then holdLength s else handOverTable s) (latchFails .configError · s) := by
  obtain hp | ⟨hp, haccepted⟩ := h
  · cases htable : checkTable s.latch.table <;> simp [checkLatched, hp, htable]
  · cases htable : checkTable s.latch.table <;> simp [checkLatched, hp, htable, checkConfig_of_accepted haccepted]

theorem checkLatched_of_recordFault {s : State} {bad : Nat} (hconfig : ConfigPasses s.latch)
    (h : checkTable s.latch.table = some bad) : checkLatched s = latchFails .configError bad s := by
  rw [checkLatched_of_configPasses hconfig, h]
  rfl

theorem checkLatched_of_passes {s : State} (hconfig : ConfigPasses s.latch) (htable : TablePasses s.latch.table) :
    checkLatched s = if s.latch.purpose = .start then holdLength s else handOverTable s := by
  rw [checkLatched_of_configPasses hconfig, checkTable_of_passes htable]
  rfl

/-- Settles O42: the checks pass over what passes and end the latch at the first fault. -/
theorem configErrorNamesFirstFault : Obligations.ConfigErrorNamesFirstFault := by
  rintro s t off l hlast - rfl
  rw [hlast.exec_eq]
  refine ⟨fun k hp hk hpass hfault => ?_, fun i r bad hconfig hpass hr hfault => ?_⟩
  · rw [checkLatched_of_configFault hp (checkConfig_of_first_fault hk hpass hfault), latchFails_of_start _ _ hp]
    rfl
  · rw [checkLatched_of_recordFault hconfig (checkTable_of_first_fault hpass hr hfault)]
    split
    next hp => rw [latchFails_of_start _ _ (by exact hp)]; rfl
    next hp =>
      have hreload : l.purpose = .reload := hconfig.resolve_right fun h => hp h.1
      rw [latchFails_of_reload _ _ (by exact hreload)]
      rfl

/-- Settles O45: the checked table is handed over, and a preparation is what R47 says. -/
theorem reloadLatchPreparesTable : Obligations.ReloadLatchPreparesTable := by
  intro s t off l hlast hp htable ht
  have hnot : ((portFreed s).withLatch l).latch.purpose ≠ .start := by simp [hp]
  rw [hlast.exec_eq, checkLatched_of_passes (.inl hp) htable, if_neg hnot]
  exact congrArg _ (beginPreparation_eq ht)

/-- Pins look at no latch. -/
theorem setPins_withLatch (p : Pin) (set : List PatternIndex) (s : State) (x : TableLatch) :
    setPins p set (s.withLatch x) = (setPins p set s).withLatch x := rfl

/-- A START latch that succeeds leaves in force what its image and table say; of the latch itself it keeps only the
restart count. -/
theorem LatchedInForce.of_withLatch {b t : State} {x : TableLatch} {image : List Word} {table : List RawRecord}
    (hrestarts : x.restarts = b.latch.restarts) (h : LatchedInForce (b.withLatch x) t image table) :
    LatchedInForce b t image table := by
  obtain ⟨w0, w1, w2, w3, w4, w5, w6, w7, w8, w9, w10, w11, v, himage, hv, ht⟩ := h
  refine ⟨w0, w1, w2, w3, w4, w5, w6, w7, w8, w9, w10, w11, v, himage, hv.trans ?_, ?_⟩
  · by_cases hlen : w8.toNat = b.queue.len <;> simp [hlen, placeUpdate_updates, setPins_withLatch, hrestarts]
  · rw [ht, ← hrestarts]
    rfl

/-- A START latch hands over its length: accepted at once when nothing changes or nothing is staged, waiting otherwise
(R91, R105). -/
theorem holdLength_eq {s : State} {w : Word} (hw : s.latch.image[8]? = some w) :
    holdLength s =
      if w.toNat = s.queue.len ∨ s.ws.staging = [] then
        latchSucceeds w.toNat (s.withLatch { s.latch with progress := .holding })
      else (s.withLatch { s.latch with progress := .holding }).withQueue
        { s.queue with acceptance := some w.toNat } := by
  have hvalue : imageValue s.latch.image 8 = w.toNat := by simp [imageValue, hw]
  rw [← hvalue]
  rfl

/-- Settles O43: the checked latch hands over its length, which R91 accepts at once or keeps waiting. -/
theorem startLatchTakesForce : Obligations.StartLatchTakesForce := by
  intro s off l w hlast hp hlen hconfig htable hw hst
  have hend : exec .latchReadComplete s = .next (holdLength ((portFreed s).withLatch l)) := by
    rw [hlast.exec_eq, checkLatched_of_passes hconfig htable, if_pos (by exact hp)]
  rw [hend, holdLength_eq hw]
  refine ⟨fun haccepted _ => ⟨_, congrArg _ (if_pos haccepted), ?_⟩, fun hother hstaged => ?_⟩
  · have hrestarts : l.restarts = s.latch.restarts := by
      obtain ⟨-, -, -, -, _, _, -, -, rfl⟩ := hlast
      rfl
    exact LatchedInForce.of_withLatch (x := { l with progress := .holding }) hrestarts
      (latchedInForce_latchSucceeds rfl hst hp hlen hw hconfig)
  · exact congrArg _ (if_neg (not_or.2 ⟨hother, hstaged⟩))

end Sys2Proof.Machine
end

/-! PROOFS of the command unit's statements (O9, O12, O35, O36, O37, O38). First what the key scanner's operations leave
of the event queue and of a drain (`besideScan`, `DrainLeft`). Then the law of what runs by the unit's
state (`UnitLawful`), completions and the rows of the commands, and last the law that every cell follows the part, kept
cell by cell with the cells whose new value is not yet published set aside (`Published`). -/

section
-- Proofs are elaborated one after another: in parallel their threads' stacks outgrow the checker's memory limit.
set_option Elab.async false

namespace Sys2Proof.Machine

/-! ## What the key scanner leaves of the event queue and of a drain -/

/-- What sampling keys leaves as it is besides what `KeysOnly` says: the drain's progress, and the event queue but for
the number of the next event. -/
def besideScan (s : State) : KeyResetProgress × EventQueue := (s.keys.reset, { s.queue with nextSeq := 0 })

theorem besideScan_of_reserve {e : KeyEvent} {s t : State} (h : reserve e s = some t) : besideScan t = besideScan s := by
  obtain ⟨-, rfl⟩ := (reserve_eq_some_iff e s t).1 h
  rfl

@[simp] theorem besideScan_acceptRelease (k : Nat) (s : State) : besideScan (acceptRelease k s) = besideScan s := by
  unfold acceptRelease
  split
  · rfl
  next hr =>
    rw [← besideScan_of_reserve hr]
    dsimp only
    split <;> rfl

@[simp] theorem besideScan_jamEntry (s : State) : besideScan (jamEntry s) = besideScan s := by
  unfold jamEntry
  split
  · rfl
  · split
    · rfl
    next hr =>
      rw [← besideScan_of_reserve hr]
      rfl

@[simp] theorem besideScan_acceptPress (k : Nat) (s : State) : besideScan (acceptPress k s) = besideScan s := by
  unfold acceptPress
  split
  · rfl
  next hr =>
    rw [← besideScan_of_reserve hr]
    dsimp only
    split <;> rfl

@[simp] theorem besideScan_acceptChange (k : Nat) (s : State) : besideScan (acceptChange k s) = besideScan s := by
  unfold acceptChange
  split
  · exact besideScan_acceptRelease k s
  · split
    · exact besideScan_jamEntry _
    · exact besideScan_acceptPress k s

@[simp] theorem besideScan_observeKey (k : Nat) (down : Bool) (s : State) :
    besideScan (observeKey k down s) = besideScan s := by
  unfold observeKey
  split
  · rfl
  · unfold disagree
    split
    · exact besideScan_acceptChange k s
    · dsimp only
      split
      · rfl
      · exact besideScan_acceptChange k _

theorem besideScan_foldl {α : Type} {f : State → α → State} (hf : ∀ t a, besideScan (f t a) = besideScan t)
    (as : List α) (s : State) : besideScan (as.foldl f s) = besideScan s := by
  induction as generalizing s with
  | nil => rfl
  | cons a as ih => exact (ih _).trans (hf s a)

@[simp] theorem besideScan_sampleSlot (levels : BitVec 8) (s : State) :
    besideScan (sampleSlot levels s) = besideScan s := by
  unfold sampleSlot
  split
  · unfold observe
    split
    · exact besideScan_foldl (fun t _ => besideScan_observeKey _ _ t) _ s
    · rfl
  · rfl

@[simp] theorem besideScan_jamExit (s : State) : besideScan (jamExit s) = besideScan s := by
  unfold jamExit
  split
  · split
    · rfl
    next hr =>
      rw [← besideScan_of_reserve hr]
      rfl
  · rfl

@[simp] theorem besideScan_repeatStep (s : State) : besideScan (repeatStep s) = besideScan s := by
  unfold repeatStep
  split
  · rfl
  · split
    · split
      · unfold repeatEvent
        dsimp only
        split
        · rfl
        next hr =>
          rw [← besideScan_of_reserve hr]
          rfl
      · rfl
    · rfl

@[simp] theorem besideScan_keyBoundary (s : State) : besideScan (keyBoundary s) = besideScan s := by
  unfold keyBoundary
  split
  · exact (besideScan_repeatStep _).trans (besideScan_jamExit s)
  · rfl

/-- `t` is `s` but for the key scanner and the events it has staged (R83). -/
structure StagesOnly (s t : State) : Prop extends KeysOnly s t where
  queue : ∃ n, t.queue = { s.queue with nextSeq := n }

/-- `t` is `s` but for the key scanner's keys, jam, marks and tracker and the events it has staged. -/
structure ScansOnly (s t : State) : Prop extends StagesOnly s t where
  reset : t.keys.reset = s.keys.reset

theorem ScansOnly.of_besideScan {s t : State} (h : KeysOnly s t) (hb : besideScan t = besideScan s) :
    ScansOnly s t := by
  obtain ⟨hreset, hqueue⟩ := Prod.mk.inj hb
  obtain ⟨hlen, hprod, hcons, -, hacc, hann⟩ := EventQueue.mk.inj hqueue
  refine ⟨⟨h, t.queue.nextSeq, ?_⟩, hreset⟩
  dsimp only
  rw [← hlen, ← hprod, ← hcons, ← hacc, ← hann]

theorem ScansOnly.sampleSlot (levels : BitVec 8) (s : State) : ScansOnly s (sampleSlot levels s) :=
  .of_besideScan (.sampleSlot levels s) (besideScan_sampleSlot levels s)

theorem ScansOnly.keyBoundary (s : State) : ScansOnly s (keyBoundary s) :=
  .of_besideScan (.keyBoundary s) (besideScan_keyBoundary s)

theorem StagesOnly.withKeys {s : State} {x : KeyScanner}
    (h : SameConfig s.keys x := by exact ⟨rfl, rfl, rfl, rfl, rfl⟩) : StagesOnly s (s.withKeys x) :=
  ⟨.withKeys h, _, rfl⟩

theorem StagesOnly.stage (e : KeyEvent) (s : State) : StagesOnly s (stage e s) := ⟨.stage e s, _, rfl⟩

theorem StagesOnly.trans {s t u : State} (h : StagesOnly s t) (h' : StagesOnly t u) : StagesOnly s u := by
  obtain ⟨n, hn⟩ := h.queue
  obtain ⟨m, hm⟩ := h'.queue
  exact ⟨h.toKeysOnly.trans h'.toKeysOnly, m, by rw [hm, hn]⟩

/-- What a drain that is at work leaves when it is asked (R75, R76): it waits, or it is over and KEY_RESET has
completed. -/
inductive DrainLeft (s : State) : State → Prop
  | waits {t : State} (h : StagesOnly s t) (hr : t.keys.reset ≠ .idle) : DrainLeft s t
  | finished {t : State} (n : Word) (h : StagesOnly s t) (hr : t.keys.reset = .idle) :
      DrainLeft s (completeTaken .done n t)

theorem DrainLeft.after {s t u : State} (h : StagesOnly s t) (h' : DrainLeft t u) : DrainLeft s u := by
  cases h' with
  | waits hu hr => exact .waits (h.trans hu) hr
  | finished n hu hr => exact .finished n (h.trans hu) hr

theorem finishKeyReset_left (s : State) : DrainLeft s (finishKeyReset s) := .finished _ .withKeys rfl

theorem drainJam_left (s : State) : DrainLeft s (drainJam s) := by
  cases hj : s.keys.jammed with
  | false =>
    rw [drainJam_of_not_jammed hj]
    exact finishKeyReset_left s
  | true =>
    cases hroom : canReserve s with
    | false =>
      rw [drainJam_of_full hj hroom]
      exact .waits .withKeys nofun
    | true =>
      rw [drainJam_of_room hj hroom]
      exact (finishKeyReset_left _).after ((StagesOnly.stage _ s).trans .withKeys)

theorem drainFrom_left (n k : Nat) (s : State) : DrainLeft s (drainFrom n k s) := by
  induction n generalizing k s with
  | zero => exact drainJam_left s
  | succ n ih =>
    cases hd : (keyAt s k).down with
    | false =>
      rw [drainFrom_of_up hd]
      exact ih _ _
    | true =>
      have hx := getElem?_of_keyAt_down hd
      cases hroom : canReserve s with
      | false =>
        rw [drainFrom_of_full hx hd hroom]
        exact .waits .withKeys nofun
      | true =>
        rw [drainFrom_of_down hx hd hroom]
        exact (ih _ _).after ((StagesOnly.stage _ s).trans .withKeys)

theorem askDrain_left {s : State} (h : s.keys.reset ≠ .idle) : DrainLeft s (askDrain s) := by
  unfold askDrain
  split
  next hr => exact absurd hr h
  · exact drainFrom_left _ _ s
  · exact drainJam_left s

theorem beginKeyReset_left (s : State) : DrainLeft s (beginKeyReset s) :=
  (askDrain_left (by simp)).after .withKeys

/-! ## What runs, by the command unit's state (R111) -/

/-- The command `code` is at work (R111, R118). -/
inductive AtWork : Word → State → Prop
  | start {s : State} (h : StartRuns s) : AtWork 1 s
  | flip {s : State} (h : PreparationRuns s) : AtWork 3 s
  | reloadReads {s : State} (h : ReloadReads s) : AtWork 4 s
  | reloadPrepares {s : State} (h : PreparationRuns s) : AtWork 4 s
  | flush {s : State} (h : Quiet s) : AtWork 5 s
  | drain {s : State} (h : DrainRuns s) : AtWork 6 s

theorem atWork_iff (code : Word) (s : State) : AtWork code s ↔
    (code = 1 ∧ StartRuns s) ∨ (code = 3 ∧ PreparationRuns s) ∨ (code = 4 ∧ (ReloadReads s ∨ PreparationRuns s))
      ∨ (code = 5 ∧ Quiet s) ∨ (code = 6 ∧ DrainRuns s) := by
  constructor
  · intro h
    cases h <;> simp_all
  · rintro (⟨rfl, h⟩ | ⟨rfl, h⟩ | ⟨rfl, h | h⟩ | ⟨rfl, h⟩ | ⟨rfl, h⟩)
    exacts [.start h, .flip h, .reloadReads h, .reloadPrepares h, .flush h, .drain h]

/-- The laws of `CommandLaw`, by the unit's state. -/
structure UnitLawful (s : State) : Prop where
  held : s.pass.resetHeld = true → s.cmd.unit = .completing ∧ s.arb.port = .free
  noTable : NoTableLaw s
  idle : s.cmd.unit = .idle → s.cmd.cellValue = 0 ∧ s.cmd.taken = none ∧ NoClearing s ∧ Quiet s
  completing : s.cmd.unit = .completing → Quiet s
  busy : s.cmd.unit = .busy → s.cmd.taken = some s.cmd.cellValue ∧ NoClearing s ∧ AtWork s.cmd.cellValue s

theorem commandLaw_iff (s : State) : CommandLaw s ↔ UnitLawful s := by
  unfold CommandLaw
  constructor
  · rintro ⟨hheld, htable, h⟩
    refine ⟨hheld, htable, fun hu => ?_, fun hu => ?_, fun hu => ?_⟩
    · simpa only [hu] using h
    · simpa only [hu] using h
    · simpa only [hu, atWork_iff] using h
  · rintro ⟨hheld, htable, hidle, hcompleting, hbusy⟩
    refine ⟨hheld, htable, ?_⟩
    cases hu : s.cmd.unit with
    | idle => exact hidle hu
    | completing => exact hcompleting hu
    | busy => simpa only [atWork_iff] using hbusy hu

/-- The command `code` has been taken and has not completed. -/
structure Busy (code : Word) (s : State) : Prop where
  released : s.pass.resetHeld = false
  noTable : NoTableLaw s
  unit : s.cmd.unit = .busy
  cellValue : s.cmd.cellValue = code
  taken : s.cmd.taken = some code
  noClearing : NoClearing s

theorem Busy.lawful {code : Word} {s : State} (h : Busy code s) (hw : AtWork code s) : UnitLawful s where
  held hheld := by simp [h.released] at hheld
  noTable := h.noTable
  idle hu := by simp [h.unit] at hu
  completing hu := by simp [h.unit] at hu
  busy _ := by
    rw [h.taken, h.cellValue]
    exact ⟨rfl, h.noClearing, hw⟩

theorem noTableLaw_of_running {s : State} (h : s.scan.state = .running) : NoTableLaw s := by
  simp [NoTableLaw, h]

theorem noTableLaw_of_warming {s : State} (h : s.scan.state = .starting) (hp : s.latch.progress = .warming) :
    NoTableLaw s := by
  simp [NoTableLaw, h, hp]

/-- Before a START latch has succeeded no table is in force (R3, R105). -/
theorem NoTableLaw.table_of_starting {s : State} (h : NoTableLaw s) (hs : s.scan.state = .starting)
    (hp : s.latch.progress ≠ .warming) : s.scan.table = [] := h (.inr ⟨hs, hp⟩)

/-! ### What is at work where -/

theorem AtWork.of_starting {code : Word} {s : State} (h : AtWork code s) (hs : s.scan.state = .starting) :
    code = 1 ∧ StartRuns s := by
  cases h with
  | start h => exact ⟨rfl, h⟩
  | flip h | reloadPrepares h | reloadReads h => simp [h.1] at hs
  | flush h => exact absurd hs h.2.2.2.1
  | drain h => exact absurd hs h.1

theorem AtWork.of_latching {code : Word} {s : State} (h : AtWork code s) (hp : s.latch.progress ≠ .idle) :
    (code = 1 ∧ StartRuns s) ∨ (code = 4 ∧ ReloadReads s) := by
  cases h with
  | start h => exact .inl ⟨rfl, h⟩
  | reloadReads h => exact .inr ⟨rfl, h⟩
  | flip h | reloadPrepares h => exact absurd h.2.1 hp
  | flush h => exact absurd h.1 hp
  | drain h => exact absurd h.2.1 hp

theorem AtWork.of_switching {code : Word} {s : State} (h : AtWork code s) (hs : s.switch.state ≠ .none) :
    (code = 3 ∨ code = 4) ∧ PreparationRuns s := by
  cases h with
  | flip h => exact ⟨.inl rfl, h⟩
  | reloadPrepares h => exact ⟨.inr rfl, h⟩
  | start h | reloadReads h => exact absurd h.2.2.2.1 hs
  | flush h => exact absurd h.2.1 hs
  | drain h => exact absurd h.2.2.1 hs

theorem AtWork.of_draining {code : Word} {s : State} (h : AtWork code s) (hr : s.keys.reset ≠ .idle) :
    code = 6 ∧ DrainRuns s := by
  cases h with
  | drain h => exact ⟨rfl, h⟩
  | start h | reloadReads h => exact absurd h.2.2.2.2.1 hr
  | flip h | reloadPrepares h => exact absurd h.2.2.2.1 hr
  | flush h => exact absurd h.2.2.1 hr

theorem AtWork.of_acceptance {code : Word} {s : State} (h : AtWork code s) (ha : s.queue.acceptance ≠ none) :
    code = 1 ∧ StartRuns s := by
  cases h with
  | start h => exact ⟨rfl, h⟩
  | reloadReads h => exact absurd h.2.2.2.2.2 ha
  | flip h | reloadPrepares h | drain h | flush h => exact absurd h.2.2.2.2 ha

namespace UnitLawful

theorem released_of_busy {s : State} (h : UnitLawful s) (hu : s.cmd.unit = .busy) : s.pass.resetHeld = false := by
  by_contra hheld
  have hcompleting := (h.held (by simpa using hheld)).1
  simp [hu] at hcompleting

/-- In BUSY a command is at work. -/
theorem works {s : State} (h : UnitLawful s) (hu : s.cmd.unit = .busy) : ∃ code, Busy code s ∧ AtWork code s := by
  obtain ⟨htaken, hclear, hwork⟩ := h.busy hu
  exact ⟨_, ⟨h.released_of_busy hu, h.noTable, hu, rfl, htaken, hclear⟩, hwork⟩

/-- Nothing runs, or a command is at work. -/
theorem quiet_or_works {s : State} (h : UnitLawful s) : Quiet s ∨ ∃ code, Busy code s ∧ AtWork code s := by
  cases hu : s.cmd.unit with
  | idle =>
    obtain ⟨-, -, -, hq⟩ := h.idle hu
    exact .inl hq
  | completing => exact .inl (h.completing hu)
  | busy => exact .inr (h.works hu)

theorem start_of_starting {s : State} (h : UnitLawful s) (hs : s.scan.state = .starting) :
    Busy 1 s ∧ StartRuns s := by
  obtain ⟨-, -, -, hq, -⟩ | ⟨code, hb, hw⟩ := h.quiet_or_works
  · exact absurd hs hq
  · obtain ⟨rfl, hrun⟩ := hw.of_starting hs
    exact ⟨hb, hrun⟩

theorem latch_of_latching {s : State} (h : UnitLawful s) (hp : s.latch.progress ≠ .idle) :
    (Busy 1 s ∧ StartRuns s) ∨ (Busy 4 s ∧ ReloadReads s) := by
  obtain ⟨hq, -⟩ | ⟨code, hb, hw⟩ := h.quiet_or_works
  · exact absurd hq hp
  · obtain ⟨rfl, hrun⟩ | ⟨rfl, hrun⟩ := hw.of_latching hp
    · exact .inl ⟨hb, hrun⟩
    · exact .inr ⟨hb, hrun⟩

theorem preparation_of_switching {s : State} (h : UnitLawful s) (hs : s.switch.state ≠ .none) :
    ∃ code, (code = 3 ∨ code = 4) ∧ Busy code s ∧ PreparationRuns s := by
  obtain ⟨-, hq, -⟩ | ⟨code, hb, hw⟩ := h.quiet_or_works
  · exact absurd hq hs
  · obtain ⟨hcode, hrun⟩ := hw.of_switching hs
    exact ⟨code, hcode, hb, hrun⟩

theorem drain_of_draining {s : State} (h : UnitLawful s) (hr : s.keys.reset ≠ .idle) : Busy 6 s ∧ DrainRuns s := by
  obtain ⟨-, -, hq, -⟩ | ⟨code, hb, hw⟩ := h.quiet_or_works
  · exact absurd hq hr
  · obtain ⟨rfl, hrun⟩ := hw.of_draining hr
    exact ⟨hb, hrun⟩

theorem start_of_acceptance {s : State} (h : UnitLawful s) (ha : s.queue.acceptance ≠ none) :
    Busy 1 s ∧ StartRuns s := by
  obtain ⟨-, -, -, -, hq⟩ | ⟨code, hb, hw⟩ := h.quiet_or_works
  · exact absurd hq ha
  · obtain ⟨rfl, hrun⟩ := hw.of_acceptance ha
    exact ⟨hb, hrun⟩

/-- While FLUSH_QUEUE runs nothing else does (R89). -/
theorem quiet_of_flushRuns {s : State} (h : UnitLawful s) (hf : flushRuns s = true) : Busy 5 s ∧ Quiet s := by
  obtain ⟨hu, htaken⟩ := of_decide_eq_true hf
  obtain ⟨code, hb, hw⟩ := h.works hu
  obtain rfl : code = 5 := Option.some.inj (hb.taken.symm.trans htaken)
  cases hw with
  | flush hq => exact ⟨hb, hq⟩

end UnitLawful

/-! ### Operations that what runs does not see -/

/-- What runs is the same in `t` as in `s`. -/
structure SameWork (s t : State) : Prop where
  scanState : t.scan.state = s.scan.state := by rfl
  table : t.scan.table = s.scan.table := by rfl
  latch : t.latch.progress = s.latch.progress ∧ t.latch.purpose = s.latch.purpose := by exact ⟨rfl, rfl⟩
  switch : t.switch.state = s.switch.state := by rfl
  reset : t.keys.reset = s.keys.reset := by rfl
  acceptance : t.queue.acceptance = s.queue.acceptance := by rfl

/-- `t` is `s` as far as the law of the command unit sees. -/
structure Unseen (s t : State) : Prop extends SameWork s t where
  resetHeld : t.pass.resetHeld = s.pass.resetHeld
  unit : t.cmd.unit = s.cmd.unit
  cellValue : t.cmd.cellValue = s.cmd.cellValue
  taken : t.cmd.taken = s.cmd.taken
  free : s.arb.port = .free → t.arb.port = .free
  noClearing : NoClearing s → NoClearing t

section
variable {s t : State}

theorem Quiet.same (h : Quiet s) (hw : SameWork s t) : Quiet t := by
  rwa [Quiet, hw.latch.1, hw.switch, hw.reset, hw.scanState, hw.acceptance]

theorem StartRuns.same (h : StartRuns s) (hw : SameWork s t) : StartRuns t := by
  rwa [StartRuns, hw.scanState, hw.latch.1, hw.latch.2, hw.switch, hw.reset, hw.acceptance]

theorem PreparationRuns.same (h : PreparationRuns s) (hw : SameWork s t) : PreparationRuns t := by
  rwa [PreparationRuns, hw.scanState, hw.latch.1, hw.switch, hw.reset, hw.acceptance]

theorem ReloadReads.same (h : ReloadReads s) (hw : SameWork s t) : ReloadReads t := by
  rwa [ReloadReads, hw.scanState, hw.latch.1, hw.latch.2, hw.switch, hw.reset, hw.acceptance]

theorem DrainRuns.same (h : DrainRuns s) (hw : SameWork s t) : DrainRuns t := by
  rwa [DrainRuns, hw.scanState, hw.latch.1, hw.switch, hw.reset, hw.acceptance]

theorem NoTableLaw.same (h : NoTableLaw s) (hw : SameWork s t) : NoTableLaw t := by
  rwa [NoTableLaw, hw.scanState, hw.latch.1, hw.table]

theorem AtWork.same {code : Word} (h : AtWork code s) (hw : SameWork s t) : AtWork code t := by
  cases h with
  | start h => exact .start (h.same hw)
  | flip h => exact .flip (h.same hw)
  | reloadReads h => exact .reloadReads (h.same hw)
  | reloadPrepares h => exact .reloadPrepares (h.same hw)
  | flush h => exact .flush (h.same hw)
  | drain h => exact .drain (h.same hw)

theorem UnitLawful.unseen (h : UnitLawful s) (ht : Unseen s t) : UnitLawful t where
  held hheld := by
    obtain ⟨hu, hfree⟩ := h.held (ht.resetHeld ▸ hheld)
    exact ⟨ht.unit.trans hu, ht.free hfree⟩
  noTable := h.noTable.same ht.toSameWork
  idle hu := by
    obtain ⟨hcell, htaken, hclear, hq⟩ := h.idle (ht.unit ▸ hu)
    exact ⟨ht.cellValue.trans hcell, ht.taken.trans htaken, ht.noClearing hclear, hq.same ht.toSameWork⟩
  completing hu := (h.completing (ht.unit ▸ hu)).same ht.toSameWork
  busy hu := by
    obtain ⟨htaken, hclear, hw⟩ := h.busy (ht.unit ▸ hu)
    rw [ht.taken, ht.cellValue]
    exact ⟨htaken, ht.noClearing hclear, hw.same ht.toSameWork⟩

theorem SameWork.trans {u : State} (h : SameWork s t) (h' : SameWork t u) : SameWork s u where
  scanState := h'.scanState.trans h.scanState
  table := h'.table.trans h.table
  latch := ⟨h'.latch.1.trans h.latch.1, h'.latch.2.trans h.latch.2⟩
  switch := h'.switch.trans h.switch
  reset := h'.reset.trans h.reset
  acceptance := h'.acceptance.trans h.acceptance

end

namespace Unseen

/-- The write stage's list, the port, RESET and the command unit as they were. -/
theorem of_same {s t : State} (hw : SameWork s t) (hheld : t.pass.resetHeld = s.pass.resetHeld := by rfl)
    (hcmd : t.cmd.unit = s.cmd.unit ∧ t.cmd.cellValue = s.cmd.cellValue ∧ t.cmd.taken = s.cmd.taken := by
      exact ⟨rfl, rfl, rfl⟩)
    (hport : t.arb.port = s.arb.port := by rfl) (hus : t.ws.updates = s.ws.updates := by rfl) : Unseen s t where
  toSameWork := hw
  resetHeld := hheld
  unit := hcmd.1
  cellValue := hcmd.2.1
  taken := hcmd.2.2
  free h := hport.trans h
  noClearing h := by rwa [NoClearing, hport, hus]

theorem refl (s : State) : Unseen s s := of_same {}

theorem trans {s t u : State} (h : Unseen s t) (h' : Unseen t u) : Unseen s u where
  toSameWork := h.toSameWork.trans h'.toSameWork
  resetHeld := h'.resetHeld.trans h.resetHeld
  unit := h'.unit.trans h.unit
  cellValue := h'.cellValue.trans h.cellValue
  taken := h'.taken.trans h.taken
  free hf := h'.free (h.free hf)
  noClearing hn := h'.noClearing (h.noClearing hn)

/-- A waiting value replaced for another cell than the command cell (R136). -/
theorem replaceWaiting (c : Cell) (v : EntryValue) (s : State) : Unseen s (replaceWaiting c v s) where
  scanState := by simp
  table := by simp
  latch := by simp
  switch := by simp
  reset := by simp
  acceptance := by simp
  resetHeld := by simp
  unit := by simp
  cellValue := by simp
  taken := by simp
  free h := by rw [replaceWaiting_of_free h]; exact h
  noClearing h := by
    unfold Machine.replaceWaiting
    split
    · refine ⟨?_, fun d r hp => ?_⟩
      · simpa only [State.withArb_ws, State.withWs_ws, hasEntry_eq, map_cell_replaceEntry] using h.1
      · obtain ⟨r', hp'⟩ := markReplaced_eq_write (by exact hp)
        exact h.2 d r' hp'
    · exact h

theorem placeUpdate {c : Cell} (hc : c ≠ .command) (v : EntryValue) (s : State) : Unseen s (placeUpdate c v s) := by
  unfold Machine.placeUpdate
  split
  · exact replaceWaiting c v s
  · refine ⟨{}, rfl, rfl, rfl, rfl, id, fun h => ⟨?_, h.2⟩⟩
    simpa [hasEntry, hc] using h.1

theorem publish {c : Cell} (hc : c ≠ .command) (s : State) : Unseen s (publish c s) := placeUpdate hc _ s

theorem raise (k : EventKind) (s : State) : Unseen s (raise k s) := by
  unfold Machine.raise
  split
  · exact refl s
  · have hset : Unseen s (s.withEvents (withPendingSet s.events (s.events.pendingSet ||| kindBit k))) := of_same {}
    exact hset.trans (publish (by decide) _)

theorem startSlot (i : Nat) (s : State) : Unseen s (startSlot i s) := by
  have hslot : ∀ r cap, Unseen s (s.withScan (slotEngine s.scan i r cap)) := fun _ _ => of_same {}
  unfold Machine.startSlot
  split
  · exact refl s
  · split
    · exact hslot _ _
    · split
      · exact (hslot _ _).trans (raise _ _)
      · exact hslot _ _

theorem of_scansOnly {s t : State} (h : ScansOnly s t) : Unseen s t := by
  obtain ⟨n, hq⟩ := h.queue
  exact of_same ⟨by rw [h.scan], by rw [h.scan], by simp [h.latch], by rw [h.switch], h.reset, by rw [hq]⟩
    (by rw [h.pass]) (by simp [h.cmd]) (by rw [h.arb]) h.updates

/-- New pins end fills; the write under way is not theirs (R26, R38). -/
theorem repin (f : Line → Line) (s : State) : Unseen s (repin f s) where
  resetHeld := rfl
  unit := rfl
  cellValue := rfl
  taken := rfl
  free h := by
    show discardWithdrawn _ s.arb.port = .free
    rw [h]
    rfl
  noClearing h := ⟨h.1, fun d r hp => h.2 d r (discardWithdrawn_eq_write hp)⟩

theorem storeHost (a : Nat) (l : Lanes) (d : Word) (s : State) : Unseen s (storeHost a l d s) := of_same {}

theorem refuseWrite (a : Nat) (l : Lanes) (collides : Bool) (s : State) : Unseen s (refuseWrite a l collides s) := by
  unfold Machine.refuseWrite
  dsimp only
  split
  · exact (storeHost a l _ s).trans (raise _ _)
  · exact storeHost a l _ s

end Unseen

/-! ### Completions, the scan engine and its reports -/

/-- A command has completed, and nothing runs (R119). -/
theorem unitLawful_of_completed {s : State} (hheld : s.pass.resetHeld = false) (hu : s.cmd.unit = .completing)
    (hn : NoTableLaw s) (hq : Quiet s) : UnitLawful s where
  held h := by simp [hheld] at h
  noTable := hn
  idle h := by simp [hu] at h
  completing _ := hq
  busy h := by simp [hu] at h

theorem SameWork.complete (code : Word) (r : Result) (d : Word) (s : State) : SameWork s (complete code r d s) where
  scanState := by simp
  table := by simp
  latch := by simp
  switch := by simp
  reset := by simp
  acceptance := by simp

theorem unitLawful_complete {s : State} (hheld : s.pass.resetHeld = false) (hn : NoTableLaw s) (hq : Quiet s)
    (code : Word) (r : Result) (d : Word) : UnitLawful (complete code r d s) :=
  unitLawful_of_completed (by simpa using hheld) (by simp [completing]) (hn.same (.complete code r d s))
    (hq.same (.complete code r d s))

/-- The same where what the command unit does not see comes before the completion. -/
theorem Unseen.completeTaken {s t : State} (ht : Unseen s t) (hheld : s.pass.resetHeld = false) (hn : NoTableLaw s)
    (hq : Quiet s) (r : Result) (d : Word) : UnitLawful (completeTaken r d t) :=
  unitLawful_complete (ht.resetHeld.trans hheld) (hn.same ht.toSameWork) (hq.same ht.toSameWork) _ r d

theorem unitLawful_completeTaken {s : State} (hheld : s.pass.resetHeld = false) (hn : NoTableLaw s) (hq : Quiet s)
    (r : Result) (d : Word) : UnitLawful (completeTaken r d s) := unitLawful_complete hheld hn hq _ r d

/-- A change that the command unit does not take part in leaves its command taken. -/
theorem Busy.moved {code : Word} {s t : State} (h : Busy code s) (hn : NoTableLaw t)
    (hheld : t.pass.resetHeld = s.pass.resetHeld := by rfl) (hcmd : t.cmd = s.cmd := by rfl)
    (hclear : NoClearing s → NoClearing t := by exact id) : Busy code t where
  released := hheld.trans h.released
  noTable := hn
  unit := hcmd ▸ h.unit
  cellValue := hcmd ▸ h.cellValue
  taken := hcmd ▸ h.taken
  noClearing := hclear h.noClearing

theorem StartRuns.no_acceptance {s : State} (h : StartRuns s) (hp : s.latch.progress ≠ .holding) :
    s.queue.acceptance = none := by
  obtain ⟨-, -, -, -, -, hacc⟩ := h
  by_contra hne
  exact hp (hacc hne)

theorem AtWork.of_preparation {code : Word} {s : State} (hcode : code = 3 ∨ code = 4) (h : PreparationRuns s) :
    AtWork code s := by
  obtain rfl | rfl := hcode
  · exact .flip h
  · exact .reloadPrepares h

/-- RUNNING begins only from a START latch that is WARMING: until then no table is in force (R4, R105). -/
theorem unitLawful_reportCurrent {s : State} (h : UnitLawful s) : UnitLawful (reportCurrent s) := by
  unfold reportCurrent
  split
  next hc =>
    obtain ⟨hst, htable, -⟩ := (currentResident_iff s).1 hc
    obtain ⟨hb, hrun⟩ := h.start_of_starting hst
    have hwarming : s.latch.progress = .warming := by
      by_contra hp
      exact htable (hb.noTable.table_of_starting hst hp)
    have hacc := hrun.no_acceptance (by simp [hwarming])
    obtain ⟨-, -, -, hsw, hreset, -⟩ := hrun
    refine UnitLawful.unseen ?_ (.startSlot 0 _)
    exact Unseen.completeTaken (.publish (by decide) _) (by exact hb.released) (noTableLaw_of_running rfl)
      (by exact ⟨rfl, hsw, hreset, by simp, hacc⟩) _ _
  · exact h

theorem unitLawful_reportNext {s : State} (h : UnitLawful s) : UnitLawful (reportNext s) := by
  unfold reportNext
  split
  next hc =>
    obtain ⟨hprep, -⟩ := (nextResident_iff s).1 hc
    obtain ⟨code, hcode, hb, hrun, hlatch, -, hreset, hacc⟩ := h.preparation_of_switching (by simp [hprep])
    exact Busy.lawful (hb.moved (by exact hb.noTable))
      (.of_preparation hcode (by exact ⟨hrun, hlatch, by simp, hreset, hacc⟩))
  · exact h

/-- A preparation begins in RUNNING, with the latch IDLE and nothing else at work (R45, R46, R47). -/
theorem unitLawful_beginPreparation {code : Word} {s : State} (hcode : code = 3 ∨ code = 4) (hb : Busy code s)
    (hrun : s.scan.state = .running) (hlatch : s.latch.progress = .idle) (hreset : s.keys.reset = .idle)
    (hacc : s.queue.acceptance = none) (table : List SlotRecord) (base : PatternIndex) :
    UnitLawful (beginPreparation table base s) :=
  unitLawful_reportNext (Busy.lawful (hb.moved (noTableLaw_of_running (by exact hrun)))
    (.of_preparation hcode (by exact ⟨hrun, hlatch, by simp, hreset, hacc⟩)))

/-! ### The table latch -/

section
variable (n : Nat) (s : State)

@[simp] theorem acceptLength_pass : (acceptLength n s).pass = s.pass := by
  unfold acceptLength
  split <;> simp

@[simp] theorem acceptLength_cmd : (acceptLength n s).cmd = s.cmd := by
  unfold acceptLength
  split <;> simp

@[simp] theorem acceptLength_switch : (acceptLength n s).switch = s.switch := by
  unfold acceptLength
  split <;> simp

@[simp] theorem acceptLength_acceptance : (acceptLength n s).queue.acceptance = none := by
  unfold acceptLength
  split <;> simp

end

theorem noClearing_warmingUp {s : State} (h : NoClearing s) (n : Nat) : NoClearing (warmingUp n s) := by
  have haccepted : NoClearing (acceptLength n s) := by
    unfold acceptLength
    split
    · exact h
    · exact ((Unseen.publish (by decide) _).trans (.publish (by decide) _)).noClearing (by exact h)
  exact ((Unseen.publish (by decide) _).trans (.publish (by decide) _)).noClearing (by exact haccepted)

theorem unitLawful_latchSucceeds {s : State} (hb : Busy 1 s) (hrun : StartRuns s) (n : Nat) :
    UnitLawful (latchSucceeds n s) := by
  obtain ⟨hst, -, hpurpose, hsw, hreset, -⟩ := hrun
  have hstarting : (warmingUp n s).scan.state = .starting := by simpa [latchedScan] using hst
  have hwarming : (warmingUp n s).latch.progress = .warming := by simp [warmingUp, takeForce]
  have hruns : StartRuns (warmingUp n s) := by
    refine ⟨hstarting, by simp [hwarming], ?_, ?_, by simpa using hreset, fun hacc => absurd ?_ hacc⟩
    · simpa [warmingUp, takeForce] using hpurpose
    · simpa [warmingUp, takeForce] using hsw
    · simp [warmingUp, takeForce]
  have hwarm : Busy 1 (warmingUp n s) := hb.moved (noTableLaw_of_warming hstarting hwarming)
    (by simp [warmingUp, takeForce]) (by simp [warmingUp, takeForce]) (noClearing_warmingUp · n)
  rw [latchSucceeds_eq]
  exact unitLawful_reportCurrent (hwarm.lawful (.start hruns))

/-- While a latch READS nothing waits for the event queue (R91). -/
theorem no_acceptance_of_reading {s : State} (h : StartRuns s ∨ ReloadReads s) (hp : s.latch.progress = .reading) :
    s.queue.acceptance = none := by
  obtain hrun | ⟨-, -, -, -, -, hacc⟩ := h
  · exact hrun.no_acceptance (by simp [hp])
  · exact hacc

theorem unitLawful_holdLength {s : State} (hb : Busy 1 s) (hrun : StartRuns s) (hp : s.latch.progress = .reading) :
    UnitLawful (holdLength s) := by
  have htable : s.scan.table = [] := hb.noTable.table_of_starting hrun.1 (by simp [hp])
  obtain ⟨hst, -, hpurpose, hsw, hreset, -⟩ := hrun
  have hholds : ∀ x : EventQueue,
      StartRuns ((s.withLatch { s.latch with progress := .holding }).withQueue x) := fun _ =>
    ⟨hst, nofun, hpurpose, hsw, hreset, fun _ => rfl⟩
  unfold holdLength
  dsimp only
  split
  · exact unitLawful_latchSucceeds (hb.moved (by exact fun _ => htable)) (by exact hholds s.queue) _
  · exact Busy.lawful (hb.moved (by exact fun _ => htable)) (.start (by exact hholds _))

/-- A latch that fails while it READS leaves nothing running (R3, R104). -/
theorem unitLawful_latchFails {s : State} (h : UnitLawful s) (hp : s.latch.progress = .reading) (r : Result)
    (off : Nat) : UnitLawful (latchFails r off s) := by
  obtain ⟨hb, hrun⟩ | ⟨hb, hrun⟩ := h.latch_of_latching (by simp [hp])
  · have hacc := no_acceptance_of_reading (.inl hrun) hp
    have htable := hb.noTable.table_of_starting hrun.1 (by simp [hp])
    obtain ⟨-, -, hpurpose, hsw, hreset, -⟩ := hrun
    rw [latchFails_of_start _ _ hpurpose]
    exact Unseen.completeTaken (.publish (by decide) _) (by exact hb.released) (by exact fun _ => htable)
      (by exact ⟨rfl, hsw, hreset, by simp, hacc⟩) _ _
  · obtain ⟨hst, -, hpurpose, hsw, hreset, hacc⟩ := hrun
    rw [latchFails_of_reload _ _ hpurpose]
    exact unitLawful_completeTaken (by exact hb.released) (noTableLaw_of_running (by exact hst))
      (by exact ⟨rfl, hsw, hreset, by simp [hst], hacc⟩) _ _

theorem unitLawful_checkLatched {s : State} (h : UnitLawful s) (hp : s.latch.progress = .reading) :
    UnitLawful (checkLatched s) := by
  obtain ⟨hb, hrun⟩ | ⟨hb, hrun⟩ := h.latch_of_latching (by simp [hp])
  · obtain ⟨-, -, hpurpose, -⟩ := id hrun
    simp only [checkLatched, hpurpose]
    split
    · exact unitLawful_latchFails h hp _ _
    · split
      · exact unitLawful_latchFails h hp _ _
      · exact unitLawful_holdLength hb hrun hp
  · obtain ⟨hst, -, hpurpose, -, hreset, hacc⟩ := hrun
    simp only [checkLatched, hpurpose]
    split
    · exact unitLawful_latchFails h hp _ _
    · exact unitLawful_beginPreparation (.inr rfl) (hb.moved (noTableLaw_of_running (by exact hst))) (by exact hst)
        (by rfl) (by exact hreset) (by exact hacc) _ _

theorem unitLawful_settleLength {s : State} (h : UnitLawful s) : UnitLawful (settleLength s) := by
  unfold settleLength
  split
  next hn =>
    split
    · obtain ⟨hb, hrun⟩ := h.start_of_acceptance (by simp [hn])
      exact unitLawful_latchSucceeds hb hrun _
    · exact h
  · exact h

theorem Unseen.freed (s : State) : Unseen s (portFreed s) := ⟨{}, rfl, rfl, rfl, rfl, fun _ => rfl, fun h => ⟨h.1, nofun⟩⟩

/-- A latch that goes on with the same progress and purpose, and the port free again. -/
theorem latchWord_keeps (off : Nat) (w : Word) (l : TableLatch) :
    (latchWord off w l).progress = l.progress ∧ (latchWord off w l).purpose = l.purpose := by
  unfold latchWord
  split <;> exact ⟨rfl, rfl⟩

theorem unitLawful_endLatchRead {s : State} (h : UnitLawful s) (off : Nat) : UnitLawful (endLatchRead off s) := by
  by_cases hp : s.latch.progress = .reading
  · have hkeeps := latchWord_keeps off (windowWord s off) s.latch
    have hread : UnitLawful ((portFreed s).withLatch (latchWord off (windowWord s off) s.latch)) :=
      h.unseen ((Unseen.freed s).trans (.of_same { latch := hkeeps }))
    by_cases hlast : readsComplete off (latchWord off (windowWord s off) s.latch) = true
    · rw [endLatchRead_of_complete hp hlast]
      exact unitLawful_checkLatched hread (hkeeps.1.trans hp)
    · rw [endLatchRead_of_incomplete hp hlast]
      exact hread
  · have hfreed : endLatchRead off s = portFreed s := if_neg hp
    rw [hfreed]
    exact h.unseen (.freed s)

theorem unitLawful_watchWrite {s : State} (h : UnitLawful s) (off : Nat) : UnitLawful (watchWrite off s) := by
  unfold watchWrite
  split
  next hread =>
    split
    · exact h.unseen (.of_same {})
    · exact unitLawful_latchFails h hread.1 _ _
  · exact h

/-! ### The drain of KEY_RESET and the write stage -/

theorem unitLawful_drainLeft {s t : State} (hb : Busy 6 s) (hst : s.scan.state ≠ .starting)
    (hlatch : s.latch.progress = .idle) (hsw : s.switch.state = .none) (hacc : s.queue.acceptance = none)
    (h : DrainLeft s t) : UnitLawful t := by
  have hkept : ∀ {u}, StagesOnly s u → u.pass.resetHeld = false ∧ NoTableLaw u ∧ u.scan.state ≠ .starting
      ∧ u.latch.progress = .idle ∧ u.switch.state = .none ∧ u.queue.acceptance = none := by
    intro u hu
    obtain ⟨n, hqueue⟩ := hu.queue
    rw [NoTableLaw, hu.pass, hu.scan, hu.latch, hu.switch, hqueue]
    exact ⟨hb.released, hb.noTable, hst, hlatch, hsw, hacc⟩
  cases h with
  | waits hu hr =>
    obtain ⟨hheld, hn, hst, hlatch, hsw, hacc⟩ := hkept hu
    have hclear : NoClearing s → NoClearing t := fun hc => by rwa [NoClearing, hu.updates, hu.arb]
    exact (hb.moved hn (by rw [hu.pass]) hu.cmd hclear).lawful (.drain ⟨hst, hlatch, hsw, hr, hacc⟩)
  | finished d hu hr =>
    obtain ⟨hheld, hn, hst, hlatch, hsw, hacc⟩ := hkept hu
    exact unitLawful_completeTaken hheld hn ⟨hlatch, hsw, hr, hst, hacc⟩ _ _

theorem unitLawful_askDrain {s : State} (h : UnitLawful s) : UnitLawful (askDrain s) := by
  by_cases hr : s.keys.reset = .idle
  · rwa [askDrain_of_idle hr]
  · obtain ⟨hb, hst, hlatch, hsw, -, hacc⟩ := h.drain_of_draining hr
    exact unitLawful_drainLeft hb hst hlatch hsw hacc (askDrain_left hr)

/-- The command cell's clearing has been written: nothing runs and nothing waits to clear the cell (R119). -/
theorem unitLawful_endCompleting {s : State} (hheld : s.pass.resetHeld = false) (hn : NoTableLaw s) (hq : Quiet s)
    (hc : NoClearing s) : UnitLawful (endCompleting s) := by
  have hended : UnitLawful (s.withCmd { s.cmd with unit := .idle, cellValue := 0, taken := none }) := by
    refine ⟨fun h => ?_, hn, fun _ => ⟨rfl, rfl, hc, hq⟩, nofun, nofun⟩
    have hheld' : s.pass.resetHeld = true := h
    simp [hheld] at hheld'
  unfold endCompleting
  dsimp only
  split
  · exact hended.unseen (.raise _ _)
  · exact hended

theorem unitLawful_cellWritten {s : State} (h : UnitLawful s) {c : Cell} (hc : c ≠ .command) :
    UnitLawful (cellWritten c s) := by
  cases c with
  | command => exact absurd rfl hc
  | producer =>
    simp only [cellWritten, producerWritten]
    split
    · exact h.unseen (Unseen.trans (t := s.withQueue { s.queue with announce := false }) (.of_same {}) (.raise _ _))
    · exact h
  | consumer =>
    simp only [cellWritten, consumerWritten]
    split
    next hf =>
      obtain ⟨hb, hq⟩ := h.quiet_of_flushRuns hf
      exact unitLawful_completeTaken hb.released hb.noTable hq _ _
    · exact h
  | statusRecord | pending | shownBase | scanState => exact h

theorem Unseen.partWritten (t : WriteTarget) (d : Word) (s : State) : Unseen s (partWritten t d s) :=
  (Unseen.freed s).trans (.of_same {})

/-- Entries leave the list, or count what of them has been written. -/
theorem Unseen.withUpdates {s : State} {us : List Entry}
    (h : hasEntry .command s.ws.updates = false → hasEntry .command us = false) :
    Unseen s (s.withWs { s.ws with updates := us }) :=
  ⟨{}, rfl, rfl, rfl, rfl, id, fun hc => ⟨h hc.1, hc.2⟩⟩

theorem hasEntry_dropEntry (c c' : Cell) (us : List Entry) :
    hasEntry c' (dropEntry c us) = (hasEntry c' us && decide (c' ≠ c)) := by
  rw [Bool.eq_iff_iff]
  simp only [hasEntry, List.any_eq_true, mem_dropEntry, decide_eq_true_eq, Bool.and_eq_true]
  constructor
  · rintro ⟨e, ⟨he, hne⟩, rfl⟩
    exact ⟨⟨e, he, rfl⟩, hne⟩
  · rintro ⟨⟨e, he, rfl⟩, hne⟩
    exact ⟨e, ⟨he, hne⟩, rfl⟩

@[simp] theorem map_cell_countStatusWord (k : Nat) (us : List Entry) :
    (countStatusWord k us).map Entry.cell = us.map Entry.cell := by
  rw [countStatusWord, List.map_map]
  refine List.map_congr_left fun e _ => ?_
  simp only [Function.comp]
  split <;> rfl

/-- The command cell is written by its clearing only, in COMPLETING (R119). -/
theorem UnitLawful.completing_of_clearing {s : State} (h : UnitLawful s) {d : Word} {r : Bool}
    (hp : s.arb.port = .write (.cell .command) d r) : s.cmd.unit = .completing := by
  cases hu : s.cmd.unit with
  | completing => rfl
  | idle =>
    obtain ⟨-, -, ⟨-, hno⟩, -⟩ := h.idle hu
    exact absurd hp (hno d r)
  | busy =>
    obtain ⟨-, ⟨-, hno⟩, -⟩ := h.busy hu
    exact absurd hp (hno d r)

/-- While a memory cycle is under way RESET is not held (R148). -/
theorem UnitLawful.released_of_port {s : State} (h : UnitLawful s) (hp : s.arb.port ≠ .free) :
    s.pass.resetHeld = false := by
  by_contra hheld
  exact hp (h.held (by simpa using hheld)).2

theorem unitLawful_endWrite {s : State} (h : UnitLawful s) {t : WriteTarget} {d : Word} {r : Bool}
    (hp : s.arb.port = .write t d r) : UnitLawful (endWrite t d r s) := by
  have hstored : UnitLawful (partWritten t d s) := h.unseen (.partWritten t d s)
  have hdropped : ∀ c, UnitLawful ((partWritten t d s).withWs
      { s.ws with updates := dropEntry c s.ws.updates }) := fun c =>
    hstored.unseen (.withUpdates fun (hnone : hasEntry .command s.ws.updates = false) => by
      simp [hasEntry_dropEntry, hnone])
  unfold endWrite
  dsimp only
  split
  next c =>
    split
    · exact hstored
    · by_cases hc : c = .command
      · subst hc
        have hu := h.completing_of_clearing hp
        exact unitLawful_endCompleting (h.released_of_port (by simp [hp])) h.noTable (h.completing hu)
          ⟨by simp [hasEntry_dropEntry], nofun⟩
      · exact unitLawful_cellWritten (hdropped c) hc
  next k =>
    split
    · exact hstored.unseen (.withUpdates fun (hnone : hasEntry .command s.ws.updates = false) => by
        rwa [hasEntry_eq, map_cell_countStatusWord, ← hasEntry_eq])
    · exact hdropped .statusRecord
  next p k =>
    split
    · exact hstored.unseen (.of_same {})
    · have hadvanced : Unseen (partWritten (.record p k) d s) (advanceProducer (partWritten (.record p k) d s)) :=
        Unseen.trans (.of_same {}) (.publish (c := .producer) (by decide) _)
      exact unitLawful_askDrain (unitLawful_settleLength (hstored.unseen hadvanced))

/-! ### Commands -/

theorem NoTableLaw.of_none {s : State} (h : s.scan.table = []) : NoTableLaw s := fun _ => h

/-- In OFF no table is in force (R2). -/
theorem NoTableLaw.table_of_off {s : State} (h : NoTableLaw s) (hs : s.scan.state = .off) : s.scan.table = [] :=
  h (.inl hs)

section
variable {s : State}

theorem unitLawful_runStart (hb : Busy 1 s) (hq : Quiet s) : UnitLawful (runStart s) := by
  obtain ⟨hlatch, hsw, hreset, hnot, hacc⟩ := id hq
  unfold runStart
  split
  next hst =>
    have htable := hb.noTable.table_of_off hst
    refine Busy.lawful (hb.moved (.of_none (by simpa using htable)) (by simp) (by simp) ?_) (.start ?_)
    · exact (Unseen.publish (by decide) (s.withScan { s.scan with state := .starting })).noClearing
    · exact ⟨by simp, by simp [beginLatch], by simp [beginLatch], by simpa using hsw, by simpa using hreset,
        fun h => absurd (by simpa using hacc) h⟩
  all_goals exact unitLawful_completeTaken hb.released hb.noTable hq _ _

theorem unitLawful_runStop (hb : Busy 2 s) (hq : Quiet s) : UnitLawful (runStop s) := by
  unfold runStop
  split
  · obtain ⟨hlatch, hsw, hreset, -, hacc⟩ := hq
    exact Unseen.completeTaken ((Unseen.repin _ _).trans (.publish (by decide) _)) (by exact hb.released)
      (.of_none rfl) (by exact ⟨hlatch, hsw, hreset, by simp, hacc⟩) _ _
  all_goals exact unitLawful_completeTaken hb.released hb.noTable hq _ _

theorem unitLawful_runFlip (hb : Busy 3 s) (hq : Quiet s) : UnitLawful (runFlip s) := by
  unfold runFlip
  split
  next hst =>
    split
    · exact unitLawful_completeTaken hb.released hb.noTable hq _ _
    · obtain ⟨hlatch, -, hreset, -, hacc⟩ := hq
      exact unitLawful_beginPreparation (.inl rfl) hb hst hlatch hreset hacc _ _
  all_goals exact unitLawful_completeTaken hb.released hb.noTable hq _ _

theorem unitLawful_runReload (hb : Busy 4 s) (hq : Quiet s) : UnitLawful (runReload s) := by
  unfold runReload
  split
  next hst =>
    obtain ⟨-, hsw, hreset, -, hacc⟩ := hq
    exact Busy.lawful (hb.moved (noTableLaw_of_running (by exact hst)))
      (.reloadReads (by exact ⟨hst, rfl, rfl, hsw, hreset, hacc⟩))
  all_goals exact unitLawful_completeTaken hb.released hb.noTable hq _ _

theorem unitLawful_runFlush (hb : Busy 5 s) (hq : Quiet s) : UnitLawful (runFlush s) :=
  UnitLawful.unseen (Busy.lawful (hb.moved (by exact hb.noTable)) (.flush (by exact hq))) (.publish (by decide) _)

theorem unitLawful_runKeyReset (hb : Busy 6 s) (hq : Quiet s) : UnitLawful (runKeyReset s) := by
  obtain ⟨hlatch, hsw, -, hst, hacc⟩ := hq
  exact unitLawful_drainLeft hb hst hlatch hsw hacc (beginKeyReset_left s)

theorem Unseen.republish (s : State) : Unseen s (republish s) :=
  ((((Unseen.publish (by decide) s).trans (.publish (by decide) _)).trans (.publish (by decide) _)).trans
    (.publish (by decide) _)).trans (.publish (by decide) _)

theorem unitLawful_runPanelReset (hb : Busy 7 s) : UnitLawful (runPanelReset s) :=
  (Unseen.republish (resetPanel s)).completeTaken hb.released (.of_none rfl)
    (by exact ⟨rfl, rfl, rfl, nofun, rfl⟩) _ _

theorem unitLawful_runCommand {code : Word} (hb : Busy code s) (hq : Quiet s) : UnitLawful (runCommand code s) := by
  unfold runCommand
  split
  next h => exact unitLawful_runStart (h ▸ hb) hq
  split
  next h => exact unitLawful_runStop (h ▸ hb) hq
  split
  next h => exact unitLawful_runFlip (h ▸ hb) hq
  split
  next h => exact unitLawful_runReload (h ▸ hb) hq
  split
  next h => exact unitLawful_runFlush (h ▸ hb) hq
  split
  next h => exact unitLawful_runKeyReset (h ▸ hb) hq
  split
  next h => exact unitLawful_runPanelReset (h ▸ hb)
  split <;> exact unitLawful_completeTaken hb.released hb.noTable hq _ _

/-- What ABORT leaves of the command at work: nothing (R121). -/
theorem quiet_endRunning {code : Word} (hw : AtWork code s) (htaken : s.cmd.taken = some code) (hn : NoTableLaw s) :
    Quiet (endRunning s) ∧ NoTableLaw (endRunning s) ∧ (endRunning s).pass = s.pass := by
  cases hw with
  | start h =>
    have hnone : s.latch.progress = .warming → s.queue.acceptance = none := fun hp =>
      h.no_acceptance (by simp [hp])
    obtain ⟨hst, -, -, hsw, hreset, -⟩ := h
    rw [endRunning, if_pos htaken]
    unfold abortStart
    dsimp only
    split
    next hp => exact ⟨⟨by simp [TableLatch.idle], by simpa using hsw, by simpa using hreset, by simp,
        by simpa using hnone hp⟩, .of_none (by simp), by simp⟩
    · exact ⟨⟨by simp [TableLatch.idle], by simpa using hsw, by simpa using hreset, by simp, by simp⟩,
        .of_none (by simp), by simp⟩
  | flip h | reloadPrepares h =>
    obtain ⟨hst, hlatch, -, hreset, hacc⟩ := h
    have hend : endRunning s = abortPreparation s := by simp [endRunning, htaken, hlatch]
    rw [hend]
    exact ⟨⟨hlatch, rfl, hreset, fun hs => by simp [hst] at hs, hacc⟩, noTableLaw_of_running hst, rfl⟩
  | reloadReads h =>
    obtain ⟨hst, hlatch, -, hsw, hreset, hacc⟩ := h
    have hend : endRunning s = s.withLatch .idle := by simp [endRunning, htaken, hlatch]
    rw [hend]
    exact ⟨⟨rfl, hsw, hreset, fun hs => by simp [hst] at hs, hacc⟩, noTableLaw_of_running hst, rfl⟩
  | flush h =>
    have hend : endRunning s = s := by simp [endRunning, htaken]
    rw [hend]
    exact ⟨h, hn, rfl⟩
  | drain h =>
    obtain ⟨hst, hlatch, hsw, -, hacc⟩ := h
    have hend : endRunning s = abortDrain s := by simp [endRunning, htaken]
    rw [hend]
    exact ⟨⟨hlatch, hsw, rfl, hst, hacc⟩, hn, rfl⟩

theorem unitLawful_abortRunning (h : UnitLawful s) (hu : s.cmd.unit = .busy) : UnitLawful (abortRunning s) := by
  obtain ⟨code, hb, hw⟩ := h.works hu
  obtain ⟨hq, hn, hpass⟩ := quiet_endRunning (s := s.withCmd { s.cmd with cellValue := 8 }) (hw.same {}) hb.taken
    (by exact hb.noTable)
  exact unitLawful_complete (by rw [hpass]; exact hb.released) hn hq _ _ _

theorem unitLawful_writeCommandCell (h : UnitLawful s) (hheld : s.pass.resetHeld = false) (a : Nat) (l : Lanes)
    (d : Word) : UnitLawful (writeCommandCell a l d s) := by
  have hstored : UnitLawful (storeHost a l d s) := h.unseen (.storeHost a l d s)
  unfold writeCommandCell
  split
  next hu =>
    split
    · exact hstored
    · obtain ⟨-, -, hclear, hq⟩ := h.idle hu
      exact unitLawful_runCommand ⟨hheld, h.noTable, rfl, rfl, rfl, hclear⟩ hq
  next hu =>
    split
    · exact unitLawful_abortRunning hstored hu
    · exact h.unseen (.refuseWrite a l _ s)
  · exact h.unseen (.refuseWrite a l _ s)

/-! ### Host cycles, the port and RESET -/

theorem unitLawful_takeWrite (h : UnitLawful s) (hheld : s.pass.resetHeld = false) (a : Nat) (l : Lanes) (d : Word) :
    UnitLawful (takeWrite a l d s) := by
  unfold takeWrite
  cases destination s a l with
  | plain | published => exact h.unseen (.storeHost a l _ s)
  | argument | pattern => exact h.unseen (.of_same {})
  | command => exact unitLawful_writeCommandCell h hheld a l d
  | pendingCell =>
    have hset : Unseen s (s.withEvents (withPendingSet s.events (clearedBy l d s.events.pendingSet))) := .of_same {}
    exact h.unseen ((hset.trans (.replaceWaiting .pending _ _)).trans (.storeHost a l _ _))
  | enableCell =>
    simp only [writeEnable]
    split <;> exact h.unseen (.of_same {})
  | consumerCell =>
    simp only [writeConsumer]
    split
    · exact unitLawful_askDrain (h.unseen (Unseen.trans (.of_same {}) (.replaceWaiting .consumer _ _)))
    · exact h.unseen ((Unseen.storeHost a l _ s).trans (.raise _ _))
  | globalLevel =>
    have hlevel : ∀ v, UnitLawful (storeHost a l d (s.withScan { s.scan with pendingLevel := v })) := fun _ =>
      h.unseen (.of_same {})
    have hstored : UnitLawful (storeHost a l d s) := h.unseen (.storeHost a l d s)
    simp only [writeGlobalLevel]
    cases levelOfWrite l d with
    | none =>
      dsimp only
      split
      · exact unitLawful_watchWrite hstored _
      · exact hstored
    | some v =>
      dsimp only
      split
      · exact unitLawful_watchWrite (hlevel v) _
      · exact hlevel v
  | watched off => exact unitLawful_watchWrite (h.unseen (.storeHost a l d s)) off

theorem unitLawful_takeCycle (h : UnitLawful s) {c : HostCycle} (hg : HostGranted s c) :
    UnitLawful (takeCycle c (grantHost s)) := by
  obtain ⟨hheld, -⟩ := hg
  have hgranted : UnitLawful (grantHost s) := h.unseen (.of_same {})
  cases c with
  | read a l => exact hgranted.unseen (.of_same {})
  | write a l d => exact unitLawful_takeWrite hgranted hheld a l d

theorem Unseen.presentCycle (c : HostCycle) (s : State) : Unseen s (presentCycle c s) := by
  unfold Machine.presentCycle
  split
  · cases c <;> exact .of_same {}
  · split
    · exact .refl s
    · exact .of_same {}

/-- The write of a one-word cell that a grant begins is of the entry at the head of the list (R137). -/
theorem partCycle_cell {c : PartClass} {x : Cell} {d : Word} {r : Bool} (h : partCycle c s = .write (.cell x) d r) :
    r = false ∧ s.ws.updates.head? = some ⟨x, .word d⟩ := by
  cases c with
  | demand | prefetch =>
    simp only [partCycle, fillCycle] at h
    split at h
    · cases h
    · split at h <;> cases h
  | latch => cases h
  | write =>
    simp only [partCycle, nextWrite] at h
    split at h
    next hn =>
      cases h
      split at hn
      next hus => cases hn; exact ⟨rfl, by rw [hus]; rfl⟩
      · cases hn
      · split at hn <;> cases hn
    · cases h

theorem unitLawful_grantPart (h : UnitLawful s) (hd : canDecide s = true) (p : PartClass) :
    UnitLawful (grantPart p s) := by
  have hheld : s.pass.resetHeld = false := by
    simp only [canDecide, Bool.and_eq_true, Bool.not_eq_true'] at hd
    exact hd.1
  have hclear : NoClearing s → NoClearing (grantPart p s) := fun hc => ⟨hc.1, fun d r hp => by
    obtain ⟨-, hhead⟩ := partCycle_cell (by exact hp : partCycle p s = _)
    have hnone := hc.1
    simp only [hasEntry, List.any_eq_false, decide_eq_true_eq] at hnone
    exact hnone _ (List.mem_of_head? hhead) rfl⟩
  refine ⟨fun hr => ?_, h.noTable, fun hu => ?_, h.completing, fun hu => ?_⟩
  · have hr' : s.pass.resetHeld = true := hr
    simp [hheld] at hr'
  · obtain ⟨hcell, htaken, hc, hq⟩ := h.idle hu
    exact ⟨hcell, htaken, hclear hc, hq⟩
  · obtain ⟨htaken, hc, hw⟩ := h.busy hu
    exact ⟨htaken, hclear hc, hw.same {}⟩

theorem unitLawful_lineReset (s : State) : UnitLawful (lineReset s) :=
  ⟨fun _ => ⟨rfl, rfl⟩, fun _ => rfl, nofun, fun _ => ⟨rfl, rfl, rfl, nofun, rfl⟩, nofun⟩

theorem unitLawful_initialPublication (h : UnitLawful s) (hu : s.cmd.unit = .completing)
    (hheld : s.pass.resetHeld = false) : UnitLawful (initialPublication s) := by
  have hsame : SameWork s (initialPublication s) := by
    refine ⟨?_, ?_, ?_, ?_, ?_, ?_⟩ <;> simp [initialPublication]
  exact unitLawful_of_completed (by simpa [initialPublication] using hheld) (by simpa [initialPublication] using hu)
    (h.noTable.same hsame) ((h.completing hu).same hsame)

/-! ### The frame boundary -/

/-- A switch ends the preparation it is of, in RUNNING (R50). -/
theorem unitLawful_switchFrames (hb : s.pass.resetHeld = false) (hrun : PreparationRuns s) (r : Result) (n : Nat) :
    UnitLawful (switchFrames r n s) := by
  obtain ⟨hst, hlatch, -, hreset, hacc⟩ := hrun
  exact unitLawful_of_completed (by simpa using hb) (by simp [completing]) (noTableLaw_of_running (by simpa using hst))
    ⟨by simpa using hlatch, by simp [FrameSwitch.noNext], by simpa using hreset, by simp [hst], by simpa using hacc⟩

theorem unitLawful_takeBoundary (h : UnitLawful s) : UnitLawful (takeBoundary s) := by
  have haged : UnitLawful (atBoundary s) := h.unseen (.of_same {})
  rw [takeBoundary_eq]
  refine UnitLawful.unseen ?_ (.of_scansOnly (.keyBoundary _))
  by_cases hdue : SwitchDue (atBoundary s)
  · have hsw : (atBoundary s).switch.state ≠ .none := by
      obtain hs | ⟨hs, -⟩ := hdue <;> rw [hs] <;> decide
    obtain ⟨code, -, hb, hrun⟩ := haged.preparation_of_switching hsw
    rw [switchBoundary_of_due hdue]
    exact unitLawful_switchFrames hb.released hrun _ _
  · rw [switchBoundary_of_not_due hdue]
    exact haged.unseen (.of_same {})

theorem Unseen.endOnTime (sense : BitVec 8) (s : State) : Unseen s (endOnTime sense s) := by
  rw [endOnTime_eq]
  exact Unseen.trans (.of_same {}) (.of_scansOnly (.sampleSlot sense _))

/-! ### Fill reads and every step -/

theorem Unseen.readWord0 (n : Nat) (idx : PatternIndex) (s : State) : Unseen s (readWord0 n idx s) := by
  obtain heq | ⟨x, -, -, -, heq⟩ := readWord0_cases n idx s <;> rw [heq]
  · exact .freed s
  · exact (Unseen.freed s).trans (.of_same {})

theorem Unseen.placeWord1 (n : Nat) (idx : PatternIndex) (s : State) : Unseen s (placeWord1 n idx s) := by
  obtain heq | ⟨x, -, -, -, heq⟩ := placeWord1_cases n idx s <;> rw [heq]
  · exact .freed s
  · exact (Unseen.freed s).trans (.of_same {})

theorem unitLawful_readWord1 (h : UnitLawful s) (n : Nat) (idx : PatternIndex) : UnitLawful (readWord1 n idx s) := by
  have hplaced : UnitLawful (placeWord1 n idx s) := h.unseen (.placeWord1 n idx s)
  have hnext : UnitLawful (if lineHasPin .next s.cache.lines n then reportNext (placeWord1 n idx s)
      else placeWord1 n idx s) := by
    split
    · exact unitLawful_reportNext hplaced
    · exact hplaced
  unfold readWord1
  dsimp only
  split
  · exact unitLawful_reportCurrent hnext
  · exact hnext

/-- Every happening keeps the law of the command unit. -/
theorem unitLawful_happening {t : State} (h : UnitLawful s) (hh : Happening s t) : UnitLawful t := by
  cases hh with
  | nothing => exact h
  | resetAsserted => exact unitLawful_lineReset _
  | resetReleased straps hheld =>
    obtain ⟨hu, -⟩ := h.held hheld
    refine unitLawful_initialPublication ?_ (by exact hu) rfl
    exact unitLawful_of_completed rfl (by exact hu) (by exact h.noTable) (by exact h.completing hu)
  | presented c => exact h.unseen (.presentCycle c s)
  | hostCycle c hg => exact unitLawful_takeCycle h hg
  | partGranted p hd => exact unitLawful_grantPart h hd p
  | latchRead off => exact unitLawful_endLatchRead h off
  | writeDone t d r hp => exact unitLawful_endWrite h hp
  | lengthSettled => exact unitLawful_settleLength h
  | word0Read n idx => exact h.unseen (.readWord0 n idx s)
  | word1Read n idx => exact unitLawful_readWord1 h n idx
  | readDiscarded => exact h.unseen (.freed s)
  | currentReported => exact unitLawful_reportCurrent h
  | nextReported => exact unitLawful_reportNext h
  | slotStarted i => exact h.unseen (.startSlot i s)
  | litEnded => exact h.unseen (.of_same {})
  | onTimeEnded sense => exact h.unseen (.endOnTime sense s)
  | boundary => exact unitLawful_takeBoundary h
  | drainAsked => exact unitLawful_askDrain h

end

/-- A tick counted down is not the command unit's. -/
theorem unitLawful_tickCounted {s : State} (h : UnitLawful s) (n : Nat) (dark : Bool) :
    UnitLawful (tickCounted n dark s) := h.unseen (.of_same {})

/-- Settles O9: every happening of a row and every tick counted down keeps what may run in each state of the unit. -/
theorem oneCommandRuns : Obligations.OneCommandRuns := fun s t h hst =>
  (commandLaw_iff t).2 (step_keeps (fun _ _ h => h.unseen (.of_same {})) (fun _ _ => unitLawful_happening)
    (fun _ n dark _ h => unitLawful_tickCounted h n dark) ((commandLaw_iff s).1 h) hst)

/-! ## Completions (R119) -/

/-- With no entry of the cell, an update is appended and nothing else changes (R136). -/
theorem placeUpdate_of_none {s : State} {c : Cell} (h : hasEntry c s.ws.updates = false) (v : EntryValue) :
    placeUpdate c v s = s.withWs { s.ws with updates := s.ws.updates ++ [⟨c, v⟩] } := if_neg (by simp [h])

/-- With neither of its entries waiting, a completion appends the status record and then the clearing (R119). -/
theorem complete_of_none {s : State} (hstatus : hasEntry .statusRecord s.ws.updates = false)
    (hcommand : hasEntry .command s.ws.updates = false) (code : Word) (r : Result) (n : Word) :
    complete code r n s = (s.withCmd (completing code r n s)).withWs { s.ws with updates := s.ws.updates ++
      [⟨.statusRecord, .status (nextRecord code r n s) 0⟩, ⟨.command, .word 0⟩] } := by
  have hcommand' : hasEntry .command (s.ws.updates ++ [⟨.statusRecord, .status (nextRecord code r n s) 0⟩]) = false := by
    simpa [hasEntry] using hcommand
  rw [complete, placeUpdate_of_none (c := .statusRecord) (by exact hstatus), placeUpdate_of_none (by exact hcommand')]
  simp [State.withWs, State.withCmd]

/-- The clearing write of the command cell has been made (R119). -/
theorem endWrite_command (d : Word) (s : State) :
    endWrite (.cell .command) d false s = endCompleting ((cellStored s 0x000 d).withWs
      { s.ws with updates := s.ws.updates.filter (fun e => e.cell ≠ .command) }) := rfl

/-- Settles O38: the record carries its result's code, and COMPLETING ends with the clearing write. -/
theorem completionPlacesStatusThenClears : Obligations.CompletionPlacesStatusThenClears := by
  intro s code r detail n hcode
  refine ⟨fun t d hp ht => ?_, fun hstatus hcommand => ?_⟩
  · have hends : exec .completingEnds s = .next (endWrite (.cell .command) d false s) := by
      simp only [exec, execCompletingEnds, hp]
    have hdone : exec .writeStageWriteDone s = .next (endWrite (.cell .command) d false s) := by
      simp only [exec, execWriteStageWriteDone, hp]
    rw [hdone, hends, endWrite_command, ht]
    exact ⟨rfl, rfl⟩
  · have hresult : resultCode r = n := by
      simp only [List.mem_cons, Prod.mk.injEq, List.not_mem_nil, or_false] at hcode
      obtain ⟨rfl, rfl⟩ | ⟨rfl, rfl⟩ | ⟨rfl, rfl⟩ | ⟨rfl, rfl⟩ | ⟨rfl, rfl⟩ | ⟨rfl, rfl⟩ | ⟨rfl, rfl⟩ | ⟨rfl, rfl⟩ | ⟨rfl, rfl⟩ :=
        hcode
      all_goals rfl
    subst hresult
    exact complete_of_none hstatus hcommand code r detail

/-! ## PANEL_RESET (R123, R124) -/

/-- The re-publication carries each cell's value of the state it begins in (R124). -/
theorem republish_eq (s : State) : republish s = placeUpdate .pending (.word (pendingWord s))
    (placeUpdate .consumer (.word (toWord s.queue.cons)) (placeUpdate .producer (.word (toWord s.queue.prod))
      (placeUpdate .scanState (.word (scanStateWord s)) (placeUpdate .shownBase (.word (shownBaseWord s)) s)))) := by
  simp [republish, publish, cellWord, pendingWord, scanStateWord]

/-- The scan state cell's value in OFF with no table in force (R2). -/
theorem scanStateWord_of_off {s : State} (hs : s.scan.state = .off) (ht : s.scan.table = []) : scanStateWord s = 0 := by
  rw [scanStateWord, hs, ht]
  decide

/-- After a panel reset every cell re-published carries 0 (R123, R124). -/
theorem republish_resetPanel (s : State) : republish (resetPanel s) = placeUpdate .pending (.word 0)
    (placeUpdate .consumer (.word 0) (placeUpdate .producer (.word 0) (placeUpdate .scanState (.word 0)
      (placeUpdate .shownBase (.word 0) (resetPanel s))))) := by
  have hscan : scanStateWord (resetPanel s) = 0 := scanStateWord_of_off rfl rfl
  rw [republish_eq, hscan]
  rfl

/-- With no kind pending INT is not asserted (R132). -/
theorem intOf_zero (enableSet : BitVec 5) : intOf 0 enableSet = false := by simp [intOf]

theorem runCommand_panelReset (s : State) : runCommand 7 s = runPanelReset s := by simp [runCommand]

/-- Settles O35: a granted write finds the port free, and the values re-published are those of a panel reset. -/
theorem panelResetResetsBlocks : Obligations.PanelResetResetsBlocks := by
  intro s t a l d hw hidle ht
  have hkept : discardWithdrawn [] (commandTaken s a l d 7).arb.port = (commandTaken s a l d 7).arb.port := by
    have hport : (commandTaken s a l d 7).arb.port = .free := port_grantHost hw.1.1
    rw [hport]
    rfl
  have hreset : resetPanel (commandTaken s a l d 7) = t := by
    rw [ht, resetPanel, hkept, withPendingSet, intOf_zero]
    rfl
  have htaken : (republish t).cmd.taken = some 7 := by
    simp [ht, republish, commandTaken]
  have hrun : exec .panelReset s = .next (runPanelReset (commandTaken s a l d 7)) := by
    rw [← runCommand_panelReset, ← takeRow_of_command hw hidle (by decide)]
    rfl
  rw [hrun, runPanelReset, hreset, completeTaken_of_taken htaken, ← hreset, republish_resetPanel]

/-! ## ABORT (R121) -/

/-- ABORT takes a granted write of its code. -/
theorem exec_abort {s : State} {a : Nat} {l : Lanes} {d : Word} (hw : CommandWritten s a l d 8) :
    exec .abort s = .next (writeCommandCell a l d (grantHost s)) := by
  have hkind : writesCode 8 a l d s = true := decide_eq_true ⟨hw.1.2, hw.2⟩
  simp only [exec, execAbort, takeRow_of_writeGranted hw.1 hkind, takeWrite, destination_grantHost, hw.1.2]

/-- While a command runs, its owner ends it and ABORT completes under its own code (R121). -/
theorem exec_abort_of_busy {s t : State} {a : Nat} {l : Lanes} {d c : Word} (hw : CommandWritten s a l d 8)
    (ht : t = (written s a l d).withCmd { s.cmd with cellValue := 8 }) (hbusy : s.cmd.unit = .busy)
    (htaken : s.cmd.taken = some c) : exec .abort s = .next (complete 8 .done c (endRunning t)) := by
  have hunit : (grantHost s).cmd.unit = .busy := hbusy
  have hval : resultingValue l d (grantHost s) = 8 := hw.2
  have hrun : writeCommandCell a l d (grantHost s) = complete 8 .done (s.cmd.taken.getD 0) (endRunning t) := by
    rw [writeCommandCell]
    simp only [hunit, if_pos hval, ht]
    rfl
  rw [exec_abort hw, hrun, htaken, Option.getD_some]

/-- Settles O36: one equation for each owner of the running command. -/
theorem abortEndsRunningCommand : Obligations.AbortEndsRunningCommand := by
  intro s t a l d hw ht
  have hcmd : t.cmd.taken = s.cmd.taken := by rw [ht]; rfl
  have hlatch : t.latch = s.latch := by rw [ht]; rfl
  refine ⟨fun hidle => ?_, fun hbusy htaken hp => ?_, fun hbusy htaken hp => ?_, fun c hc hbusy htaken hp => ?_,
    fun hbusy htaken hp => ?_, fun hbusy htaken => ?_, fun hbusy htaken => ?_, fun hcompleting => ?_⟩
  · have hrun : exec .abort s = .next (runCommand 8 (commandTaken s a l d 8)) :=
      congrArg _ (takeRow_of_command hw hidle (by decide))
    rw [hrun, ← completeTaken_commandTaken]
    rfl
  · have hcold : t.latch.progress ≠ .warming := by
      rw [hlatch]
      obtain hp | hp := hp <;> simp [hp]
    rw [exec_abort_of_busy hw ht hbusy htaken, endRunning, if_pos (hcmd.trans htaken), abortStart, if_neg hcold, ht]
    rfl
  · have hwarm : t.latch.progress = .warming := by rw [hlatch, hp]
    rw [exec_abort_of_busy hw ht hbusy htaken, endRunning, if_pos (hcmd.trans htaken), abortStart, if_pos hwarm, ht]
    rfl
  · have hnot : ¬ t.cmd.taken = some 1 := by
      rw [hcmd, htaken]
      obtain rfl | rfl := hc <;> decide
    have hswitch : t.cmd.taken = some 3 ∨ t.cmd.taken = some 4 := by
      rw [hcmd, htaken]
      obtain rfl | rfl := hc <;> decide
    rw [exec_abort_of_busy hw ht hbusy htaken, endRunning, if_neg hnot, if_pos hswitch, if_neg (hlatch ▸ hp), ht]
    rfl
  · have h4 : t.cmd.taken = some 4 := hcmd.trans htaken
    rw [exec_abort_of_busy hw ht hbusy htaken, endRunning, if_neg (by simp [h4]), if_pos (.inr h4),
      if_pos (by rw [hlatch, hp])]
  · have h5 : t.cmd.taken = some 5 := hcmd.trans htaken
    rw [exec_abort_of_busy hw ht hbusy htaken, endRunning, if_neg (by simp [h5]), if_neg (by simp [h5]),
      if_neg (by simp [h5])]
  · have h6 : t.cmd.taken = some 6 := hcmd.trans htaken
    rw [exec_abort_of_busy hw ht hbusy htaken, endRunning, if_neg (by simp [h6]), if_neg (by simp [h6]), if_pos h6, ht]
    rfl
  · have hunit : (grantHost s).cmd.unit = .completing := hcompleting
    have hval : resultingValue l d (grantHost s) = 8 := hw.2
    have hsilent : (!isZeroWrite l d && decide (resultingValue l d (grantHost s) ≠ 8)) = false := by simp [hval]
    rw [exec_abort hw, writeCommandCell]
    simp only [hunit, hsilent, refuseWrite]
    rfl

/-! ## Refused writes of the command cell (R112 to R115) -/

/-- The bytes a write carries, one of them not 0 (R112). -/
theorem isZeroWrite_eq_false_iff (l : Lanes) (d : Word) :
    isZeroWrite l d = false ↔ (l.low = true ∧ lowByte d ≠ 0) ∨ (l.high = true ∧ highByte d ≠ 0) := by
  rw [← Bool.not_eq_true]
  simp only [isZeroWrite, Bool.and_eq_true, Bool.or_eq_true, Bool.not_eq_true', beq_iff_eq, not_and_or, not_or,
    Bool.not_eq_false, ne_eq]

/-- Outside IDLE every command but ABORT is rewritten with the cell value, and a non-zero write collides (R114, R115). -/
theorem writeCommandCell_of_refused {s : State} {a : Nat} {l : Lanes} {d : Word} (hu : s.cmd.unit ≠ .idle)
    (hval : resultingValue l d s ≠ 8) :
    writeCommandCell a l d s = refuseWrite a l (!isZeroWrite l d) s := by
  unfold writeCommandCell
  cases hs : s.cmd.unit with
  | idle => exact absurd hs hu
  | busy => exact if_neg hval
  | completing =>
    dsimp only
    rw [decide_eq_true hval, Bool.and_true]

/-- A row whose kind the granted write of the command cell is takes it, refused. -/
theorem takeRow_of_refused {s : State} {a : Nat} {l : Lanes} {d code : Word} (hw : CommandWritten s a l d code)
    (hu : s.cmd.unit ≠ .idle) (hcode : code ≠ 8) {kind : Nat → Lanes → Word → State → Bool}
    (hkind : kind a l d s = true) :
    takeRow kind s =
      if (l.low = true ∧ lowByte d ≠ 0) ∨ (l.high = true ∧ highByte d ≠ 0) then
        raise .collision (written s a l s.cmd.cellValue)
      else written s a l s.cmd.cellValue := by
  have hval : resultingValue l d (grantHost s) ≠ 8 := by
    rw [← hw.2] at hcode
    exact hcode
  rw [takeRow_of_writeGranted hw.1 hkind, takeWrite, destination_grantHost, hw.1.2]
  dsimp only
  rw [writeCommandCell_of_refused (by exact hu) hval, refuseWrite]
  simp only [Bool.not_eq_true', isZeroWrite_eq_false_iff]
  rfl

/-- Settles O37: taken as UNKNOWN in IDLE, refused elsewhere; ABORT's code is left to its own row. -/
theorem unknownAndRefusedCommandWrites : Obligations.UnknownAndRefusedCommandWrites := by
  intro s a l d code hw
  obtain ⟨hgrant, hval⟩ := id hw
  refine ⟨fun hidle hzero => ?_, fun hidle hcode => ?_, fun hu h8 => ?_, fun hu h8 c hc => ?_⟩
  · subst hzero
    have hkind : isRefusedCommandWrite a l d s = true := by
      simp [isRefusedCommandWrite, hgrant.2, hidle, hval]
    have hunit : (grantHost s).cmd.unit = .idle := hidle
    have hval' : resultingValue l d (grantHost s) = 0 := hval
    simp only [exec, execCommandCellWrite, takeRow_of_writeGranted hgrant hkind, takeWrite, destination_grantHost,
      hgrant.2, writeCommandCell, hunit, if_pos hval']
    rfl
  · have hne : ∀ k : Word, k.toNat < 9 → code ≠ k := by
      rintro k hk rfl
      omega
    have hkind : writesUnknown a l d s = true := decide_eq_true ⟨hgrant.2, by rwa [hval]⟩
    have hrun : runCommand code (commandTaken s a l d code) =
        completeTaken .unknown 0 (commandTaken s a l d code) := by
      unfold runCommand
      iterate 8 rw [if_neg (hne _ (by decide))]
    simp only [exec, execUnknownCommand, takeRow_of_writeGranted hgrant hkind]
    rw [writeCommandCell_of_taken hw hidle (hne 0 (by decide)), hrun, completeTaken_commandTaken]
  · have hkind : isRefusedCommandWrite a l d s = false := by
      simp [isRefusedCommandWrite, hu, hval, h8]
    refine congrArg _ (takeRow_of_not_granted fun a' l' d' hgrant' => ?_)
    obtain ⟨-, -, hwaits, -⟩ := hgrant.1
    obtain ⟨-, -, hwaits', -⟩ := hgrant'
    cases hwaits.symm.trans hwaits'
    exact hkind
  · have hwrites : writesCode code a l d s = true := decide_eq_true ⟨hgrant.2, hval⟩
    have hrefused : ∀ kind : Nat → Lanes → Word → State → Bool, kind a l d s = true → _ := fun kind hkind =>
      takeRow_of_refused hw hu h8 hkind
    obtain rfl | hc | ⟨rfl, hcode⟩ := hc
    · exact congrArg _ (hrefused isRefusedCommandWrite (by
        rw [isRefusedCommandWrite, decide_eq_true hgrant.2, if_neg hu, hval, decide_eq_true h8]
        rfl))
    · simp only [List.mem_cons, Prod.mk.injEq, List.not_mem_nil, or_false] at hc
      obtain ⟨rfl, rfl⟩ | ⟨rfl, rfl⟩ | ⟨rfl, rfl⟩ | ⟨rfl, rfl⟩ | ⟨rfl, rfl⟩ | ⟨rfl, rfl⟩ | ⟨rfl, rfl⟩ := hc
      all_goals exact congrArg _ (hrefused _ hwrites)
    · exact congrArg _ (hrefused writesUnknown (decide_eq_true ⟨hgrant.2, by rwa [hval]⟩))
/-! ## The cells follow the part (R116, R141) -/

/-! ### The words of a cell and the values they carry -/

/-- The window offsets of a cell's words (R135). -/
def cellWords : Cell → List Nat
  | .statusRecord => [0x008, 0x00A, 0x00C, 0x00E]
  | c => [cellOffset c]

/-- The part's own value of a cell's word (R140). -/
def cellValueAt (s : State) (c : Cell) (off : Nat) : Word :=
  match c with
  | .statusRecord => statusWord s.cmd.record ((off - 0x008) / 2)
  | c => cellWord s c

/-- What a host write that reaches a word of a cell is, by the table of R146. -/
def cellOwner (c : Cell) (off : Nat) : Destination :=
  match c with
  | .command => .command
  | .pending => .pendingCell
  | .consumer => .consumerCell
  | .statusRecord | .producer | .shownBase | .scanState => .published off

theorem mem_cellWords {c : Cell} (hc : c ≠ .statusRecord) {off : Nat} : off ∈ cellWords c ↔ off = cellOffset c := by
  cases c with
  | statusRecord => exact absurd rfl hc
  | _ => exact List.mem_singleton

theorem mem_statusWords {off : Nat} : off ∈ cellWords .statusRecord ↔ ∃ k < 4, off = 0x008 + 2 * k := by
  simp only [cellWords, List.mem_cons, List.not_mem_nil, or_false]
  constructor
  · rintro (rfl | rfl | rfl | rfl)
    exacts [⟨0, by decide, rfl⟩, ⟨1, by decide, rfl⟩, ⟨2, by decide, rfl⟩, ⟨3, by decide, rfl⟩]
  · rintro ⟨k, hk, rfl⟩
    omega

theorem cellValueAt_of_ne {c : Cell} (hc : c ≠ .statusRecord) (s : State) (off : Nat) :
    cellValueAt s c off = cellWord s c := by
  cases c with
  | statusRecord => exact absurd rfl hc
  | _ => rfl

theorem cellValueAt_status (s : State) (k : Nat) :
    cellValueAt s .statusRecord (0x008 + 2 * k) = statusWord s.cmd.record k := by
  have hword : (0x008 + 2 * k - 0x008) / 2 = k := by omega
  rw [cellValueAt, hword]

theorem cellValueAt_congr {s t : State} {c : Cell} (hrec : c = .statusRecord → t.cmd.record = s.cmd.record)
    (hval : cellWord t c = cellWord s c) (off : Nat) : cellValueAt t c off = cellValueAt s c off := by
  by_cases hc : c = .statusRecord
  · subst hc
    rw [cellValueAt, cellValueAt, hrec rfl]
  · rw [cellValueAt_of_ne hc, cellValueAt_of_ne hc, hval]

/-- The words of the cells lie at even offsets below the pattern area, and each is one cell's. -/
theorem cellWords_even {c : Cell} {off : Nat} (h : off ∈ cellWords c) : off % 2 = 0 ∧ off ≤ 0x01E := by
  revert off
  cases c <;> decide

theorem cellOffset_not_mem {c c' : Cell} (hc : c ≠ .statusRecord) (hne : c' ≠ c) : cellOffset c ∉ cellWords c' := by
  revert hc hne
  cases c <;> cases c' <;> decide

theorem destinationOfOffset_cellWords {c : Cell} {off : Nat} (h : off ∈ cellWords c) (reading : Option Purpose) :
    destinationOfOffset reading off = cellOwner c off := by
  by_cases hc : c = .statusRecord
  · subst hc
    simp only [cellWords, List.mem_cons, List.not_mem_nil, or_false] at h
    obtain rfl | rfl | rfl | rfl := h <;> rfl
  · obtain rfl := (mem_cellWords hc).1 h
    cases c with
    | statusRecord => exact absurd rfl hc
    | _ => rfl

/-! ### What a waiting entry says -/

theorem hasEntry_iff (c : Cell) (us : List Entry) : hasEntry c us = true ↔ ∃ v, ⟨c, v⟩ ∈ us := by
  simp only [hasEntry, List.any_eq_true, decide_eq_true_eq]
  constructor
  · rintro ⟨⟨c', v⟩, he, rfl⟩
    exact ⟨v, he⟩
  · rintro ⟨v, hv⟩
    exact ⟨_, hv, rfl⟩

theorem hasEntry_eq_false_iff (c : Cell) (us : List Entry) : hasEntry c us = false ↔ ∀ v, ⟨c, v⟩ ∉ us := by
  rw [← Bool.not_eq_true, hasEntry_iff, not_exists]

/-- A one-word cell's entry carries a word: the part's value, or what clears the command cell. -/
theorem entryLaw_iff_word {s : State} {c : Cell} (hs : c ≠ .statusRecord) (v : EntryValue) :
    EntryLaw s ⟨c, v⟩ ↔ v = .word (if c = .command then 0 else cellWord s c) := by
  cases v with
  | word w => cases c <;> simp_all [EntryLaw]
  | status r k => cases c <;> simp_all [EntryLaw]

/-- The status record's entry carries the record last placed, its words written so far in memory. -/
theorem entryLaw_iff_status {s : State} (v : EntryValue) : EntryLaw s ⟨.statusRecord, v⟩ ↔
    ∃ k, v = .status s.cmd.record k ∧ k ≤ 3 ∧ ∀ j < k, windowWord s (0x008 + 2 * j) = statusWord s.cmd.record j := by
  cases v with
  | word w => simp [EntryLaw]
  | status r k =>
    simp only [EntryLaw, EntryValue.status.injEq]
    constructor
    · rintro ⟨rfl, h⟩
      exact ⟨k, ⟨rfl, rfl⟩, h⟩
    · rintro ⟨_, ⟨rfl, rfl⟩, h⟩
      exact ⟨rfl, h⟩

/-- A cell follows the part: its waiting entry is what it should be, and with none waiting memory holds the part's own
value. -/
structure Follows (s : State) (c : Cell) : Prop where
  entry : ∀ v, ⟨c, v⟩ ∈ s.ws.updates → EntryLaw s ⟨c, v⟩
  memory : hasEntry c s.ws.updates = false → ∀ off ∈ cellWords c, windowWord s off = cellValueAt s c off

/-- What a cell follows by: its entries, the part's value, and, where memory has a word of it, that word. -/
theorem Follows.congr {s t : State} {c : Cell} (h : Follows s c)
    (hus : ∀ v, ⟨c, v⟩ ∈ t.ws.updates ↔ ⟨c, v⟩ ∈ s.ws.updates) (hval : cellWord t c = cellWord s c)
    (hrec : c = .statusRecord → t.cmd.record = s.cmd.record)
    (hmem : hasEntry c s.ws.updates = false ∨ c = .statusRecord → ∀ off ∈ cellWords c,
      windowWord s off = cellValueAt s c off → windowWord t off = cellValueAt s c off) : Follows t c := by
  refine ⟨fun v hv => ?_, fun hnone off hoff => ?_⟩
  · have hlaw := h.entry v ((hus v).1 hv)
    by_cases hc : c = .statusRecord
    · subst hc
      rw [entryLaw_iff_status] at hlaw ⊢
      obtain ⟨k, rfl, hk, hwritten⟩ := hlaw
      refine ⟨k, by rw [hrec rfl], hk, fun j hj => ?_⟩
      have hword : 0x008 + 2 * j ∈ cellWords .statusRecord := mem_statusWords.2 ⟨j, by omega, rfl⟩
      rw [hrec rfl, ← cellValueAt_status]
      exact hmem (.inr rfl) _ hword (by rw [cellValueAt_status, hwritten j hj])
    · rw [entryLaw_iff_word hc] at hlaw ⊢
      rw [hlaw, hval]
  · have hnone' : hasEntry c s.ws.updates = false := by
      rw [hasEntry_eq_false_iff] at hnone ⊢
      exact fun v hv => hnone v ((hus v).2 hv)
    rw [cellValueAt_congr hrec hval, hmem (.inl hnone') off hoff (h.memory hnone' off hoff)]

/-! ### The list and the write under way -/

/-- The cells of the list stand once each, the command cell never ahead of the status record (R119, R136). -/
structure ListLawful (cells : List Cell) : Prop where
  nodup : cells.Nodup
  order : cells.Pairwise (fun x y => ¬ (x = .command ∧ y = .statusRecord))

theorem statusBeforeCommand_iff (us : List Entry) : StatusBeforeCommand us ↔
    (us.map Entry.cell).Pairwise (fun x y => ¬ (x = .command ∧ y = .statusRecord)) := by
  rw [StatusBeforeCommand, List.pairwise_map]

theorem ListLawful.sublist {l₁ l₂ : List Cell} (h : ListLawful l₂) (hl : l₁.Sublist l₂) : ListLawful l₁ :=
  ⟨h.nodup.sublist hl, h.order.sublist hl⟩

theorem ListLawful.append {cells : List Cell} {c : Cell} (h : ListLawful cells) (hc : c ∉ cells)
    (ho : c = .statusRecord → Cell.command ∉ cells) : ListLawful (cells ++ [c]) := by
  refine ⟨h.nodup.append (List.nodup_singleton c) (List.disjoint_singleton.2 hc),
    List.pairwise_append.2 ⟨h.order, List.pairwise_singleton _ _, fun x hx y hy => ?_⟩⟩
  rintro ⟨rfl, rfl⟩
  exact ho (List.mem_singleton.1 hy).symm hx

theorem map_cell_placed (c : Cell) (v : EntryValue) (us : List Entry) :
    (placed c v us).map Entry.cell = if c ∈ us.map Entry.cell then us.map Entry.cell else us.map Entry.cell ++ [c] := by
  rw [placed, hasEntry_eq]
  by_cases h : c ∈ us.map Entry.cell
  · rw [if_pos (decide_eq_true h), if_pos h, map_cell_replaceEntry]
  · rw [if_neg (by simpa using h), if_neg h, List.map_append]
    rfl

theorem mem_placed_of_ne {c x : Cell} (hx : x ≠ c) (v w : EntryValue) (us : List Entry) :
    ⟨x, v⟩ ∈ placed c w us ↔ ⟨x, v⟩ ∈ us := by
  unfold placed
  split
  · rw [mem_replaceEntry]
    simp [hx]
  · simp [hx]

theorem eq_of_mem_placed {c : Cell} {v w : EntryValue} {us : List Entry} (h : ⟨c, v⟩ ∈ placed c w us) : v = w := by
  unfold placed at h
  split at h
  · rw [mem_replaceEntry] at h
    obtain ⟨-, hne⟩ | ⟨-, hv, -⟩ := h
    · exact absurd rfl hne
    · exact hv
  next hnone =>
    rw [Bool.not_eq_true, hasEntry_eq_false_iff] at hnone
    obtain h | h := List.mem_append.1 h
    · exact absurd h (hnone v)
    · cases List.mem_singleton.1 h
      rfl

/-- The write under way serves the head of the list (R137, R138). -/
structure WriteServes (us : List Entry) (q : StatusRecord) (p : PortCycle) : Prop where
  cell : ∀ c d, p = .write (.cell c) d false → us.head? = some ⟨c, .word d⟩
  replaced : ∀ c d, p = .write (.cell c) d true →
    c ≠ .statusRecord ∧ c ≠ .command ∧ us.head?.map Entry.cell = some c
  status : ∀ k d r, p = .write (.status k) d r →
    k ≤ 3 ∧ d = statusWord q k ∧ us.head? = some ⟨.statusRecord, .status q k⟩

theorem writeUnderWayLaw_iff (s : State) :
    WriteUnderWayLaw s ↔ WriteServes s.ws.updates s.cmd.record s.arb.port := by
  unfold WriteUnderWayLaw
  constructor
  · intro h
    refine ⟨fun c d hp => ?_, fun c d hp => ?_, fun k d r hp => ?_⟩ <;> simpa only [hp] using h
  · rintro ⟨hcell, hreplaced, hstatus⟩
    split
    · exact hcell _ _ ‹_›
    · exact hreplaced _ _ ‹_›
    · exact hstatus _ _ _ ‹_›
    · trivial

namespace WriteServes

variable {us : List Entry} {q : StatusRecord} {p : PortCycle}

theorem of_free (h : p = .free) : WriteServes us q p := by
  subst h
  exact ⟨nofun, nofun, nofun⟩

/-- No write of the status record is under way while none of it waits: another record may be placed. -/
theorem of_record {q' : StatusRecord} (h : WriteServes us q p) (hnone : hasEntry .statusRecord us = false) :
    WriteServes us q' p :=
  ⟨h.cell, h.replaced, fun k d r hp => by
    obtain ⟨-, -, hhead⟩ := h.status k d r hp
    exact absurd (List.mem_of_head? hhead) ((hasEntry_eq_false_iff _ _).1 hnone _)⟩

/-- No write begins: those under way were so before. -/
theorem of_writes {p' : PortCycle} (h : WriteServes us q p) (hp : ∀ t d r, p' = .write t d r → p = .write t d r) :
    WriteServes us q p' :=
  ⟨fun c d he => h.cell c d (hp _ _ _ he), fun c d he => h.replaced c d (hp _ _ _ he),
    fun k d r he => h.status k d r (hp _ _ _ he)⟩

theorem head_append {x : Entry} (ys : List Entry) (h : us.head? = some x) : (us ++ ys).head? = some x := by
  cases us with
  | nil => simp at h
  | cons y us => exact h

theorem append (h : WriteServes us q p) (ys : List Entry) : WriteServes (us ++ ys) q p := by
  refine ⟨fun c d hp => head_append ys (h.cell c d hp), fun c d hp => ?_, fun k d r hp => ?_⟩
  · obtain ⟨hs, hc, hhead⟩ := h.replaced c d hp
    obtain ⟨x, hx, rfl⟩ := Option.map_eq_some_iff.1 hhead
    exact ⟨hs, hc, by rw [head_append ys hx]; rfl⟩
  · obtain ⟨hk, hd, hhead⟩ := h.status k d r hp
    exact ⟨hk, hd, head_append ys hhead⟩

theorem head?_replaceEntry (c : Cell) (v : EntryValue) (us : List Entry) :
    (replaceEntry c v us).head? = us.head?.map (fun e => if e.cell = c then { e with value := v } else e) :=
  List.head?_map

/-- A waiting value of another cell than the status record and the command cell is replaced, and the write of that
cell under way marked (R138). -/
theorem replace {c : Cell} (h : WriteServes us q p) (hs : c ≠ .statusRecord) (hc : c ≠ .command) (v : EntryValue) :
    WriteServes (replaceEntry c v us) q (markReplaced c p) := by
  have hcells : (replaceEntry c v us).head?.map Entry.cell = us.head?.map Entry.cell := by
    rw [← List.head?_map, map_cell_replaceEntry, List.head?_map]
  refine ⟨fun x d hp => ?_, fun x d hp => ?_, fun k d r hp => ?_⟩
  · unfold markReplaced at hp
    split at hp
    next c' d' r' =>
      simp only [PortCycle.write.injEq, WriteTarget.cell.injEq, Bool.or_eq_false_iff, decide_eq_false_iff_not] at hp
      obtain ⟨rfl, rfl, rfl, hne⟩ := hp
      rw [head?_replaceEntry, h.cell _ _ rfl]
      simp [hne]
    next hno => exact absurd hp (hno _ _ _)
  · rw [hcells]
    unfold markReplaced at hp
    split at hp
    next c' d' r' =>
      simp only [PortCycle.write.injEq, WriteTarget.cell.injEq] at hp
      obtain ⟨rfl, rfl, hr⟩ := hp
      cases r' with
      | true => exact h.replaced _ _ rfl
      | false =>
        obtain rfl : c' = c := by simpa using hr
        exact ⟨hs, hc, by rw [h.cell _ _ rfl]; rfl⟩
    next hno => exact absurd hp (hno _ _ _)
  · obtain ⟨r', rfl⟩ := markReplaced_eq_write hp
    obtain ⟨hk, hd, hhead⟩ := h.status k d r' rfl
    exact ⟨hk, hd, by rw [head?_replaceEntry, hhead]; simp [Ne.symm hs]⟩

theorem place {c : Cell} (h : WriteServes us q p) (hs : c ≠ .statusRecord) (hc : c ≠ .command) (v : EntryValue) :
    WriteServes (placed c v us) q (marked c us p) := by
  unfold placed marked
  split
  · exact h.replace hs hc v
  · exact h.append _

end WriteServes

/-! ### The law of a part that is not held in RESET -/

/-- The laws of `PublishedCellsLaw` while RESET is not held, but for the cells of `D`, whose new values have not been
published yet. -/
structure Published (D : List Cell) (s : State) : Prop where
  released : s.pass.resetHeld = false
  list : ListLawful (s.ws.updates.map Entry.cell)
  writing : WriteServes s.ws.updates s.cmd.record s.arb.port
  settled : s.cmd.unit ≠ .completing →
    hasEntry .command s.ws.updates = false ∧ hasEntry .statusRecord s.ws.updates = false
  clearing : s.cmd.unit = .completing → hasEntry .command s.ws.updates = true
  commandCell : s.cmd.taken ≠ none → windowWord s 0x000 = s.cmd.cellValue
  follows : ∀ c, c ∉ D → Follows s c

/-- While RESET is held nothing waits and nothing is taken (R125, R148). -/
def Blank (s : State) : Prop :=
  s.ws.updates = [] ∧ s.ws.staging = [] ∧ s.scan.state = .off ∧ s.cmd.taken = none ∧ s.cmd.cellValue = 0

theorem published_nil_iff {s : State} (h : s.pass.resetHeld = false) : Published [] s ↔
    (s.ws.updates.map Entry.cell).Nodup
    ∧ (∀ e ∈ s.ws.updates, EntryLaw s e)
    ∧ StatusBeforeCommand s.ws.updates
    ∧ WriteUnderWayLaw s
    ∧ (s.cmd.unit ≠ .completing →
        hasEntry .command s.ws.updates = false ∧ hasEntry .statusRecord s.ws.updates = false)
    ∧ (s.cmd.unit = .completing → hasEntry .command s.ws.updates = true)
    ∧ (s.cmd.taken ≠ none → windowWord s 0x000 = s.cmd.cellValue)
    ∧ (∀ c ∈ [Cell.command, .pending, .producer, .consumer, .shownBase, .scanState],
        hasEntry c s.ws.updates = false → windowWord s (cellOffset c) = cellWord s c)
    ∧ (hasEntry .statusRecord s.ws.updates = false →
        ∀ k < 4, windowWord s (0x008 + 2 * k) = statusWord s.cmd.record k) := by
  have hcells : ∀ c : Cell, c ∈ [Cell.command, .pending, .producer, .consumer, .shownBase, .scanState] ↔
      c ≠ .statusRecord := by
    intro c
    cases c <;> decide
  rw [writeUnderWayLaw_iff, statusBeforeCommand_iff]
  constructor
  · rintro ⟨-, ⟨hnodup, horder⟩, hwriting, hsettled, hclearing, hcommand, hfollows⟩
    refine ⟨hnodup, fun e he => (hfollows e.cell nofun).entry e.value he, horder, hwriting, hsettled, hclearing,
      hcommand, fun c hc hnone => ?_, fun hnone k hk => ?_⟩
    · have hs := (hcells c).1 hc
      have hword := (hfollows c nofun).memory hnone (cellOffset c) ((mem_cellWords hs).2 rfl)
      rwa [cellValueAt_of_ne hs] at hword
    · have hword := (hfollows .statusRecord nofun).memory hnone _ (mem_statusWords.2 ⟨k, hk, rfl⟩)
      rwa [cellValueAt_status] at hword
  · rintro ⟨hnodup, hentries, horder, hwriting, hsettled, hclearing, hcommand, hone, hstatus⟩
    refine ⟨h, ⟨hnodup, horder⟩, hwriting, hsettled, hclearing, hcommand, fun c _ =>
      ⟨fun v hv => hentries _ hv, fun hnone off hoff => ?_⟩⟩
    by_cases hs : c = .statusRecord
    · subst hs
      obtain ⟨k, hk, rfl⟩ := mem_statusWords.1 hoff
      rw [cellValueAt_status, hstatus hnone k hk]
    · obtain rfl := (mem_cellWords hs).1 hoff
      rw [cellValueAt_of_ne hs, hone c ((hcells c).2 hs) hnone]

theorem publishedCellsLaw_iff (s : State) : PublishedCellsLaw s ↔
    CommandLaw s ∧ QueueLaw s ∧ WindowLaw s ∧ (s.pass.resetHeld = true → Blank s)
      ∧ (s.pass.resetHeld = false → Published [] s) := by
  unfold PublishedCellsLaw
  cases hheld : s.pass.resetHeld with
  | false =>
    rw [published_nil_iff hheld]
    simp only [Bool.false_eq_true, false_imp_iff, true_imp_iff, true_and]
  | true =>
    simp only [Bool.true_eq_false, false_imp_iff, true_imp_iff, and_true]
    refine and_congr_right fun hcmd => and_congr_right fun _ => and_congr_right fun _ => ?_
    constructor
    · rintro ⟨-, -, -, -, hblank, -⟩
      exact hblank
    · rintro ⟨hus, hrest⟩
      obtain ⟨hu, hfree⟩ := ((commandLaw_iff s).1 hcmd).held hheld
      rw [writeUnderWayLaw_iff, hus]
      exact ⟨List.nodup_nil, nofun, List.Pairwise.nil, .of_free hfree, ⟨rfl, hrest⟩, fun hne => absurd hu hne⟩

/-! ### Changes of the part's values and their publication (R136, R141) -/

/-- Memory, the list of waiting updates and what the cells' law says of the command unit are in `t` as in `s`. -/
structure SameList (s t : State) : Prop where
  updates : t.ws.updates = s.ws.updates := by rfl
  mem : t.mem = s.mem := by rfl
  windowBase : t.pass.windowBase = s.pass.windowBase := by rfl
  resetHeld : t.pass.resetHeld = s.pass.resetHeld := by rfl
  unit : t.cmd.unit = s.cmd.unit := by rfl
  cellValue : t.cmd.cellValue = s.cmd.cellValue := by rfl
  taken : t.cmd.taken = s.cmd.taken := by rfl
  record : t.cmd.record = s.cmd.record := by rfl

namespace Published

variable {D E : List Cell} {s t : State}

/-- The part's values may change of the cells of `E`, and no write begins that the list does not ask for. -/
theorem moved (h : Published D s) (ht : SameList s t) (hcells : ∀ c, c ∉ E → c ∉ D ∧ cellWord t c = cellWord s c)
    (hwriting : WriteServes s.ws.updates s.cmd.record s.arb.port → WriteServes s.ws.updates s.cmd.record t.arb.port) :
    Published E t := by
  have hword : ∀ off, windowWord t off = windowWord s off := fun off => by
    simp only [windowWord, windowAddr, ht.mem, ht.windowBase]
  refine ⟨ht.resetHeld.trans h.released, ht.updates ▸ h.list, ?_, ?_, ?_, ?_, fun c hc => ?_⟩
  · rw [ht.updates, ht.record]
    exact hwriting h.writing
  · rw [ht.updates, ht.unit]
    exact h.settled
  · rw [ht.updates, ht.unit]
    exact h.clearing
  · rw [ht.taken, hword, ht.cellValue]
    exact h.commandCell
  · obtain ⟨hc', hval⟩ := hcells c hc
    exact (h.follows c hc').congr (by simp [ht.updates]) hval (fun _ => ht.record) fun _ off _ heq => by rw [hword, heq]

/-- No cell's value changes. -/
theorem changed (h : Published D s) (hcells : ∀ c, cellWord t c = cellWord s c := by exact fun c => by cases c <;> rfl)
    (hwriting : WriteServes s.ws.updates s.cmd.record s.arb.port → WriteServes s.ws.updates s.cmd.record t.arb.port := by
      exact id)
    (ht : SameList s t := by exact {}) : Published D t := h.moved ht (fun c hc => ⟨hc, hcells c⟩) hwriting

/-- The values of some cells change. -/
theorem changedIn (cells : List Cell) (h : Published [] s)
    (hcells : ∀ c, c ∉ cells → cellWord t c = cellWord s c := by intro c hc; cases c <;> simp at hc <;> rfl)
    (hwriting : WriteServes s.ws.updates s.cmd.record s.arb.port → WriteServes s.ws.updates s.cmd.record t.arb.port := by
      exact id)
    (ht : SameList s t := by exact {}) : Published cells t := h.moved ht (fun c hc => ⟨nofun, hcells c hc⟩) hwriting

/-- The cell's value is published: from then on an update carries it (R136). -/
theorem publish {c : Cell} (h : Published (c :: D) s) (hs : c ≠ .statusRecord := by decide)
    (hc : c ≠ .command := by decide) : Published D (publish c s) := by
  have hus : (Machine.publish c s).ws.updates = placed c (.word (cellWord s c)) s.ws.updates :=
    placeUpdate_updates c _ s
  have hword : ∀ off, windowWord (Machine.publish c s) off = windowWord s off := fun off => by
    simp [windowWord, windowAddr]
  have hvals : ∀ x, cellWord (Machine.publish c s) x = cellWord s x := fun x => by
    cases x <;> simp [cellWord, pendingWord, shownBaseWord, scanStateWord]
  refine ⟨by simpa using h.released, ?_, ?_, ?_, ?_, ?_, fun x hx => ?_⟩
  · rw [hus, map_cell_placed]
    split
    · exact h.list
    next hnew => exact h.list.append hnew fun he => absurd he hs
  · rw [hus, publish_cmd]
    exact placeUpdate_port c _ s ▸ h.writing.place hs hc _
  · rw [hus, publish_cmd, hasEntry_placed, hasEntry_placed]
    intro hu
    obtain ⟨hcmd, hstatus⟩ := h.settled hu
    simp [hcmd, hstatus, Ne.symm hs, Ne.symm hc]
  · rw [hus, publish_cmd, hasEntry_placed]
    intro hu
    rw [h.clearing hu, Bool.true_or]
  · rw [publish_cmd, hword]
    exact h.commandCell
  · by_cases hxc : x = c
    · subst hxc
      refine ⟨fun v hv => ?_, fun hnone => ?_⟩
      · rw [hus] at hv
        rw [eq_of_mem_placed hv, entryLaw_iff_word hs, if_neg hc, hvals]
      · rw [hus, hasEntry_placed] at hnone
        simp at hnone
    · exact (h.follows x (by simp [hxc, hx])).congr (fun v => by rw [hus]; exact mem_placed_of_ne hxc v _ _)
        (hvals x) (by simp) fun _ off _ heq => by rw [hword, heq]

/-- A kind raised joins the pending set, which is published (R128). -/
theorem raise (h : Published [] s) (k : EventKind) : Published [] (raise k s) := by
  unfold Machine.raise
  split
  · exact h
  · exact publish (h.changedIn [.pending])

/-- A slot start looks up a pattern, and raises UNDERRUN where it has none (R8, R9). -/
theorem startSlot (h : Published [] s) (i : Nat) : Published [] (startSlot i s) := by
  have hslot : ∀ r cap, Published [] (s.withScan (slotEngine s.scan i r cap)) := fun _ _ => h.changed
  unfold Machine.startSlot
  split
  · exact h
  · split
    · exact hslot _ _
    · split
      · exact (hslot _ _).raise _
      · exact hslot _ _

/-- Staged events are no cell's. -/
theorem of_stagesOnly (h : Published D s) (ht : StagesOnly s t) : Published D t := by
  obtain ⟨n, hqueue⟩ := ht.queue
  refine h.changed (fun c => ?_) (by rw [ht.arb]; exact id)
    ⟨ht.updates, ht.mem, by rw [ht.pass], by rw [ht.pass], by rw [ht.cmd], by rw [ht.cmd], by rw [ht.cmd], by rw [ht.cmd]⟩
  cases c <;> simp [cellWord, pendingWord, shownBaseWord, scanStateWord, ht.cmd, ht.events, hqueue, ht.scan]

/-- New pins end fills, never a write (R26). -/
theorem repin (h : Published D s) (f : Line → Line) : Published D (repin f s) :=
  h.changed (hwriting := fun hw => hw.of_writes fun _ _ _ hp => discardWithdrawn_eq_write hp)

/-- A completion places both of its entries, neither of which waits while a command runs (R119). -/
theorem complete (h : Published [] s) (hu : s.cmd.unit = .busy) (code : Word) (r : Result) (n : Word) :
    Published [] (complete code r n s) := by
  obtain ⟨hcommand, hstatus⟩ := h.settled (by simp [hu])
  rw [complete_of_none hstatus hcommand]
  have hcmd : Cell.command ∉ s.ws.updates.map Entry.cell := by simpa [hasEntry_eq] using hcommand
  have hst : Cell.statusRecord ∉ s.ws.updates.map Entry.cell := by simpa [hasEntry_eq] using hstatus
  refine ⟨h.released, ?_, ?_, fun hne => absurd rfl hne, fun _ => ?_, h.commandCell, fun c _ => ?_⟩
  · have hfirst := h.list.append hst fun _ => hcmd
    simpa using hfirst.append (c := .command) (by simpa using hcmd) nofun
  · exact (h.writing.of_record hstatus).append _
  · simp [hasEntry]
  · cases c with
    | command =>
      refine ⟨fun v hv => ?_, fun hnone => ?_⟩
      · rw [entryLaw_iff_word (by decide), if_pos rfl]
        simpa [(hasEntry_eq_false_iff _ _).1 hcommand v] using hv
      · simp [hasEntry] at hnone
    | statusRecord =>
      refine ⟨fun v hv => ?_, fun hnone => ?_⟩
      · rw [entryLaw_iff_status]
        refine ⟨0, ?_, by decide, by simp⟩
        simpa [(hasEntry_eq_false_iff _ _).1 hstatus v, completing] using hv
      · simp [hasEntry] at hnone
    | pending | producer | consumer | shownBase | scanState =>
      exact (h.follows _ nofun).congr (by simp) rfl nofun fun _ _ _ heq => heq

theorem completeTaken (h : Published [] s) (hu : s.cmd.unit = .busy) (r : Result) (n : Word) :
    Published [] (completeTaken r n s) := h.complete hu _ r n

end Published

/-! ### The part's own happenings -/

/-- A latch works for the command that runs (R96). -/
theorem UnitLawful.busy_of_latching {s : State} (h : UnitLawful s) (hp : s.latch.progress ≠ .idle) :
    s.cmd.unit = .busy := by
  obtain ⟨hb, -⟩ | ⟨hb, -⟩ := h.latch_of_latching hp
  all_goals exact hb.unit

namespace Published

variable {s t : State}

theorem setPins (h : Published [] s) (p : Pin) (is : List PatternIndex) : Published [] (setPins p is s) := h.changed

theorem reportCurrent (h : Published [] s) (hu : s.scan.state = .starting → s.cmd.unit = .busy) :
    Published [] (reportCurrent s) := by
  unfold Machine.reportCurrent
  split
  next hc =>
    obtain ⟨hst, -⟩ := (currentResident_iff s).1 hc
    refine Published.startSlot (Published.completeTaken (publish (h.changedIn [.scanState])) ?_ _ _) 0
    rw [publish_cmd]
    exact hu hst
  · exact h

theorem reportNext (h : Published [] s) : Published [] (reportNext s) := by
  unfold Machine.reportNext
  split
  · exact h.changed
  · exact h

theorem beginPreparation (h : Published [] s) (table : List SlotRecord) (base : PatternIndex) :
    Published [] (beginPreparation table base s) := reportNext (h.changed)

theorem acceptLength (h : Published [] s) (n : Nat) : Published [] (acceptLength n s) := by
  unfold Machine.acceptLength
  split
  · exact h.changed
  · exact publish (publish (h.changedIn [.producer, .consumer]))

theorem latchSucceeds (h : Published [] s) (hu : s.cmd.unit = .busy) (n : Nat) : Published [] (latchSucceeds n s) := by
  have hforce : Published [.scanState, .shownBase] (takeForce s.latch.image s.latch.table (Machine.acceptLength n s)) :=
    (h.acceptLength n).changedIn _
  rw [latchSucceeds_eq]
  refine reportCurrent (setPins (publish (publish hforce)) _ _) fun _ => ?_
  simpa [warmingUp, takeForce] using hu

theorem holdLength (h : Published [] s) (hu : s.cmd.unit = .busy) : Published [] (holdLength s) := by
  unfold Machine.holdLength
  dsimp only
  split
  · exact latchSucceeds (h.changed) (by exact hu) _
  · exact h.changed

theorem latchFails (h : Published [] s) (hu : s.cmd.unit = .busy) (r : Result) (off : Nat) :
    Published [] (latchFails r off s) := by
  unfold Machine.latchFails
  cases s.latch.purpose with
  | start => exact completeTaken (publish (h.changedIn [.scanState])) (by rw [publish_cmd]; exact hu) _ _
  | reload => exact completeTaken (h.changed) (by exact hu) _ _

theorem checkLatched (h : Published [] s) (hu : s.cmd.unit = .busy) : Published [] (checkLatched s) := by
  unfold Machine.checkLatched
  cases s.latch.purpose with
  | start =>
    dsimp only
    split
    · exact h.latchFails hu _ _
    · split
      · exact h.latchFails hu _ _
      · exact h.holdLength hu
  | reload =>
    dsimp only
    split
    · exact h.latchFails hu _ _
    · exact beginPreparation (h.changed) _ _

theorem settleLength (h : Published [] s) (hl : UnitLawful s) : Published [] (settleLength s) := by
  unfold Machine.settleLength
  split
  next hn =>
    split
    · exact h.latchSucceeds (hl.start_of_acceptance (by simp [hn])).1.unit _
    · exact h
  · exact h

theorem watchWrite (h : Published [] s) (hl : UnitLawful s) (off : Nat) : Published [] (watchWrite off s) := by
  unfold Machine.watchWrite
  split
  next hread =>
    split
    · exact h.changed
    · exact h.latchFails (hl.busy_of_latching (by simp [hread.1])) _ _
  · exact h

theorem freed (h : Published [] s) : Published [] (portFreed s) := h.changed (hwriting := fun _ => .of_free rfl)

theorem endLatchRead (h : Published [] s) (hl : UnitLawful s) (off : Nat) : Published [] (endLatchRead off s) := by
  by_cases hp : s.latch.progress = .reading
  · have hread : Published [] ((portFreed s).withLatch (latchWord off (windowWord s off) s.latch)) := h.freed.changed
    by_cases hlast : readsComplete off (latchWord off (windowWord s off) s.latch) = true
    · rw [endLatchRead_of_complete hp hlast]
      exact hread.checkLatched (hl.busy_of_latching (by simp [hp]))
    · rw [endLatchRead_of_incomplete hp hlast]
      exact hread
  · have hfreed : Machine.endLatchRead off s = portFreed s := if_neg hp
    rw [hfreed]
    exact h.freed

theorem drainLeft (h : Published [] s) (hu : s.cmd.unit = .busy) (ht : DrainLeft s t) : Published [] t := by
  cases ht with
  | waits hu' => exact h.of_stagesOnly hu'
  | finished d hu' => exact completeTaken (h.of_stagesOnly hu') (by rw [hu'.cmd, hu]) _ _

theorem askDrain (h : Published [] s) (hl : UnitLawful s) : Published [] (askDrain s) := by
  by_cases hr : s.keys.reset = .idle
  · rwa [askDrain_of_idle hr]
  · exact h.drainLeft (hl.drain_of_draining hr).1.unit (askDrain_left hr)

/-- The switch publishes what it changes of the scan engine's two cells (R50). -/
theorem switchFrames (h : Published [] s) (hu : s.cmd.unit = .busy) (r : Result) (n : Nat) :
    Published [] (switchFrames r n s) := by
  have hmoved : ∀ {D : List Cell} {u : State} (x : FrameSwitch), Published D u → Published D ((movePins u).withSwitch x) :=
    fun _ hp => (hp.repin _).changed
  unfold Machine.switchFrames
  dsimp only
  split
  next hlen =>
    have hbase : Published [.shownBase]
        (s.withScan { s.scan with table := s.switch.nextTable, frameBase := s.switch.nextBase }) :=
      h.changedIn _ fun c hc => by
        cases c with
        | shownBase => simp at hc
        | scanState => simp [cellWord, scanStateWord, hlen]
        | _ => rfl
    exact completeTaken (publish (hmoved _ hbase)) (by simpa using hu) _ _
  · have hboth : Published [.shownBase, .scanState]
        (s.withScan { s.scan with table := s.switch.nextTable, frameBase := s.switch.nextBase }) :=
      h.changedIn _
    exact completeTaken (publish (publish (hmoved _ hboth))) (by simpa using hu) _ _

theorem takeBoundary (h : Published [] s) (hl : UnitLawful s) : Published [] (takeBoundary s) := by
  have haged : Published [] (atBoundary s) := h.changed
  rw [takeBoundary_eq]
  refine of_stagesOnly ?_ (ScansOnly.keyBoundary _).toStagesOnly
  by_cases hdue : SwitchDue (atBoundary s)
  · have hsw : (atBoundary s).switch.state ≠ .none := by
      obtain hs | ⟨hs, -⟩ := hdue <;> rw [hs] <;> decide
    have hl' : UnitLawful (atBoundary s) := hl.unseen (.of_same {})
    obtain ⟨code, -, hb, -⟩ := hl'.preparation_of_switching hsw
    rw [switchBoundary_of_due hdue]
    exact haged.switchFrames hb.unit _ _
  · rw [switchBoundary_of_not_due hdue]
    exact haged.changed

theorem endOnTime (h : Published [] s) (sense : BitVec 8) : Published [] (endOnTime sense s) := by
  rw [endOnTime_eq]
  exact of_stagesOnly (h.changed) (ScansOnly.sampleSlot sense _).toStagesOnly

theorem readWord0 (h : Published [] s) (n : Nat) (idx : PatternIndex) : Published [] (readWord0 n idx s) := by
  obtain heq | ⟨x, -, -, -, heq⟩ := readWord0_cases n idx s <;> rw [heq]
  · exact h.freed
  · exact h.freed.changed

theorem placeWord1 (h : Published [] s) (n : Nat) (idx : PatternIndex) : Published [] (placeWord1 n idx s) := by
  obtain heq | ⟨x, -, -, -, heq⟩ := placeWord1_cases n idx s <;> rw [heq]
  · exact h.freed
  · exact h.freed.changed

end Published
/-! ### Commands (R118, R121) -/

namespace Published

variable {s t : State}

theorem runStart (h : Published [] s) (hu : s.cmd.unit = .busy) : Published [] (runStart s) := by
  have hstarting : Published [] (Machine.publish .scanState (s.withScan { s.scan with state := .starting })) :=
    publish (h.changedIn [.scanState])
  unfold Machine.runStart
  cases s.scan.state with
  | off => exact hstarting.changed
  | starting | running => exact h.completeTaken hu _ _

theorem runStop (h : Published [] s) (hu : s.cmd.unit = .busy) : Published [] (runStop s) := by
  unfold Machine.runStop
  cases s.scan.state with
  | running => exact completeTaken (publish (repin (h.changedIn [.scanState]) _)) (by simpa [stopPanel] using hu) _ _
  | off | starting => exact h.completeTaken hu _ _

theorem runFlip (h : Published [] s) (hu : s.cmd.unit = .busy) : Published [] (runFlip s) := by
  unfold Machine.runFlip
  cases s.scan.state with
  | running =>
    dsimp only
    split
    · exact h.completeTaken hu _ _
    · exact h.beginPreparation _ _
  | off | starting => exact h.completeTaken hu _ _

theorem runReload (h : Published [] s) (hu : s.cmd.unit = .busy) : Published [] (runReload s) := by
  unfold Machine.runReload
  cases s.scan.state with
  | running => exact h.changed
  | off | starting => exact h.completeTaken hu _ _

theorem runKeyReset (h : Published [] s) (hu : s.cmd.unit = .busy) : Published [] (runKeyReset s) :=
  h.drainLeft hu (beginKeyReset_left s)

/-- A panel reset changes five cells' values, and re-publishes those five (R123, R124). -/
theorem runPanelReset (h : Published [] s) (hu : s.cmd.unit = .busy) : Published [] (runPanelReset s) := by
  have hreset : Published [.shownBase, .scanState, .producer, .consumer, .pending] (resetPanel s) :=
    h.changedIn _ (hwriting := fun hw => hw.of_writes fun _ _ _ hp => discardWithdrawn_eq_write hp)
  exact completeTaken (publish (publish (publish (publish (publish hreset))))) (by simpa [republish, resetPanel] using hu) _ _

theorem runCommand (h : Published [] s) (hu : s.cmd.unit = .busy) (code : Word) : Published [] (runCommand code s) := by
  unfold Machine.runCommand
  split
  · exact h.runStart hu
  split
  · exact h.runStop hu
  split
  · exact h.runFlip hu
  split
  · exact h.runReload hu
  split
  · exact publish (h.changedIn [.consumer])
  split
  · exact h.runKeyReset hu
  split
  · exact h.runPanelReset hu
  split
  · exact h.completeTaken hu _ _
  · exact h.completeTaken hu _ _

theorem abortStart (h : Published [] s) : Published [] (abortStart s) := by
  have hended : ∀ {u : State} {x : ScanEngine}, Published [] u → x.frameBase = u.scan.frameBase →
      Published [.scanState] ((u.withLatch .idle).withScan x) := fun {u x} hp hx => hp.changedIn _ fun c hc => by
    cases c with
    | scanState => simp at hc
    | shownBase => simp [cellWord, shownBaseWord, hx]
    | _ => rfl
  unfold Machine.abortStart
  dsimp only
  split
  · exact publish (hended (h.repin _) rfl)
  · exact publish (hended (h.changed) rfl)

/-- However its owner ends it, the running command leaves the cells as they follow (R121). -/
theorem endRunning (h : Published [] s) : Published [] (endRunning s) := by
  unfold Machine.endRunning
  split
  · exact h.abortStart
  split
  · split
    · exact h.changed
    · exact repin (h.changed) _
  split
  · exact h.changed
  · exact h

end Published
/-! ### Words in memory -/

theorem joinBytes_bytes (w : Word) : joinBytes (highByte w) (lowByte w) = w := by
  rw [joinBytes, highByte, lowByte,
    BitVec.extractLsb'_append_extractLsb'_eq_extractLsb' (start₁ := 0) (len₁ := 8) rfl]
  exact BitVec.extractLsb'_eq_self

/-- A word merged with itself is that word. -/
theorem mergeLanes_self (l : Lanes) (w : Word) : mergeLanes l w w = w := by
  rw [mergeLanes, ite_self, ite_self, joinBytes_bytes]

/-- A write that carries no lane leaves a word as it was (R145). -/
theorem mergeLanes_of_no_lane {l : Lanes} (h : carriesLane l = false) (d w : Word) : mergeLanes l d w = w := by
  simp only [carriesLane, Bool.or_eq_false_iff] at h
  obtain ⟨hlow, hhigh⟩ := h
  simp [mergeLanes, hlow, hhigh, joinBytes_bytes]

/-- The carried lanes of one word are written, every other word stays (R147). -/
theorem wordAt_putLanes_lanes {m : Memory} (h : Memory.wf m = true) {a x : Nat} (ha : a % 2 = 0) (hx : x % 2 = 0)
    (l : Lanes) (d : Word) :
    wordAt (putLanes m a l d) x = if x = a then mergeLanes l d (wordAt m a) else wordAt m x := by
  simp only [wordAt, byteAt_putLanes h]
  by_cases heq : x = a
  · subst heq
    simp [mergeLanes]
  · rw [if_neg heq, if_neg (by omega), if_neg (by omega), if_neg (by omega), if_neg (by omega)]

theorem windowWord_storeHost {s : State} (hm : MemoryCanonical s) (hw : WindowLaw s) {off : Nat} (hoff : off % 2 = 0)
    (a : Nat) (l : Lanes) (d : Word) : windowWord (storeHost a l d s) off =
      if windowAddr s off = wordAddr a then mergeLanes l d (windowWord s off) else windowWord s off := by
  have heven := windowBase_even hw
  have hstored := wordAt_putLanes_lanes hm (a := wordAddr a) (x := windowAddr s off) (by unfold wordAddr; omega)
    (by unfold windowAddr; omega) l d
  refine Eq.trans hstored ?_
  split
  next heq => rw [windowWord, heq]
  · rfl

/-- The end of a part's write puts its word, both lanes, at its target (R137). -/
theorem windowWord_partWritten {s : State} (hm : MemoryCanonical s) (hw : WindowLaw s) {off : Nat} (hoff : off % 2 = 0)
    (t : WriteTarget) (d : Word) :
    windowWord (partWritten t d s) off = if off = targetOffset t then d else windowWord s off := by
  have heven := windowBase_even hw
  have htarget : targetOffset t % 2 = 0 := by
    cases t with
    | cell c => cases c <;> rfl
    | status k => simp only [targetOffset]; omega
    | record p k => simp only [targetOffset, Config.ringBase]; omega
  have hstored := wordAt_putLanes_lanes hm (a := windowAddr s (targetOffset t)) (x := windowAddr s off)
    (by unfold windowAddr; omega) (by unfold windowAddr; omega) bothLanes d
  refine Eq.trans hstored ?_
  have haddr : windowAddr s off = windowAddr s (targetOffset t) ↔ off = targetOffset t := by
    simp [windowAddr]
  simp only [haddr]
  split
  · rw [mergeLanes, bothLanes, if_pos rfl, if_pos rfl, joinBytes_bytes]
  · rfl

/-! ### Host writes and the cells (R140, R146) -/

/-- A write that carries a lane of a cell's word goes to the cell's owner. -/
theorem destination_of_cellWords {s : State} {c : Cell} {off a : Nat} {l : Lanes} (hoff : off ∈ cellWords c)
    (hl : carriesLane l = true) (ha : windowAddr s off = wordAddr a) : destination s a l = cellOwner c off := by
  obtain ⟨-, hle⟩ := cellWords_even hoff
  have hwindow : inWindow s a = true := by
    simp only [wordAddr, windowAddr] at ha
    rw [inWindow, decide_eq_true_eq, Config.windowSize]
    omega
  have hword : wordAddr a - s.pass.windowBase = off := by
    rw [← ha, windowAddr]
    omega
  unfold destination
  rw [hl, hwindow, hword]
  exact destinationOfOffset_cellWords hoff _

/-- A cell's word takes the carried lanes of a write that goes to its owner, and no other write. -/
theorem windowWord_storeHost_cell {s : State} (hm : MemoryCanonical s) (hw : WindowLaw s) {c : Cell} {off : Nat}
    (hoff : off ∈ cellWords c) (a : Nat) (l : Lanes) (d : Word) :
    windowWord (storeHost a l d s) off = windowWord s off ∨
      destination s a l = cellOwner c off ∧ windowWord (storeHost a l d s) off = mergeLanes l d (windowWord s off) := by
  rw [windowWord_storeHost hm hw (cellWords_even hoff).1]
  split
  next ha =>
    by_cases hl : carriesLane l = true
    · exact .inr ⟨destination_of_cellWords hoff hl ha, rfl⟩
    · exact .inl (mergeLanes_of_no_lane (by simpa using hl) _ _)
  · exact .inl rfl

/-- The cells whose writes change what the part holds. -/
theorem offset_of_cellOwner {c : Cell} (hc : c = .command ∨ c = .pending ∨ c = .consumer) {reading : Option Purpose}
    {off off' : Nat} (h : destinationOfOffset reading off = cellOwner c off') : off = cellOffset c := by
  unfold destinationOfOffset at h
  have hwatched : ∀ (p : Prop) [Decidable p], (if p then Destination.watched off else .plain) ≠ cellOwner c off' := by
    intro p _
    obtain rfl | rfl | rfl := hc <;> split <;> nofun
  by_contra hne
  obtain rfl | rfl | rfl := hc
  · replace h := (if_neg hne).symm.trans h
    iterate 6 replace h := eq_of_ite_eq h nofun
    iterate 2 replace h := eq_of_ite_eq h (hwatched _)
    cases eq_of_ite_eq h nofun
  · iterate 3 replace h := eq_of_ite_eq h nofun
    replace h := (if_neg hne).symm.trans h
    iterate 3 replace h := eq_of_ite_eq h nofun
    iterate 2 replace h := eq_of_ite_eq h (hwatched _)
    cases eq_of_ite_eq h nofun
  · iterate 5 replace h := eq_of_ite_eq h nofun
    replace h := (if_neg hne).symm.trans h
    replace h := eq_of_ite_eq h nofun
    iterate 2 replace h := eq_of_ite_eq h (hwatched _)
    cases eq_of_ite_eq h nofun

/-- A write to such a cell reaches its word. -/
theorem windowWord_storeHost_owned {s : State} (hm : MemoryCanonical s) (hw : WindowLaw s) {c : Cell}
    (hc : c = .command ∨ c = .pending ∨ c = .consumer) {a : Nat} {l : Lanes}
    (hdst : destination s a l = cellOwner c (cellOffset c)) (d : Word) :
    windowWord (storeHost a l d s) (cellOffset c) = mergeLanes l d (windowWord s (cellOffset c)) := by
  have hcell : c ≠ .statusRecord := by
    rintro rfl
    simp at hc
  rw [windowWord_storeHost hm hw (cellWords_even ((mem_cellWords hcell).2 rfl)).1]
  refine if_pos ?_
  unfold destination at hdst
  split at hdst
  next hin =>
    have hword := offset_of_cellOwner hc hdst
    simp only [Bool.and_eq_true, inWindow, decide_eq_true_eq] at hin
    obtain ⟨-, hlo, -⟩ := hin
    have heven := windowBase_even hw
    rw [windowAddr, ← hword]
    unfold wordAddr
    omega
  · obtain rfl | rfl | rfl := hc <;> cases hdst

/-- The word a write to a published cell carries is the part's own value (R140). -/
theorem publishedWord_eq {s : State} {c : Cell} {off off' : Nat} (hoff : off ∈ cellWords c)
    (h : Destination.published off' = cellOwner c off) : publishedWord s off' = cellValueAt s c off := by
  cases c with
  | command | pending | consumer => cases h
  | statusRecord =>
    cases h
    simp only [cellWords, List.mem_cons, List.not_mem_nil, or_false] at hoff
    obtain rfl | rfl | rfl | rfl := hoff <;> rfl
  | producer | shownBase | scanState =>
    cases h
    obtain rfl := (mem_cellWords (by decide)).1 hoff
    rfl
/-! ### Host writes taken (R113 to R115, R129, R87, R140) -/

theorem updates_replaceWaiting (c : Cell) (v : EntryValue) (s : State) :
    (replaceWaiting c v s).ws.updates = replaceEntry c v s.ws.updates := by
  unfold replaceWaiting
  split
  · rfl
  next hnone => rw [replaceEntry_of_not_hasEntry (by simpa using hnone)]

namespace Published

variable {D : List Cell} {s u : State} {a : Nat} {l : Lanes} {d : Word}

/-- A host write that carries the part's own value into every word it reaches of a cell leaves the cells following. -/
theorem storeHost (h : Published D s) (hm : MemoryCanonical s) (hw : WindowLaw s) (hD : Cell.command ∉ D)
    (hd : ∀ c off, off ∈ cellWords c → destination s a l = cellOwner c off → c ∉ D → d = cellValueAt s c off) :
    Published D (storeHost a l d s) := by
  have hkeeps : ∀ c, c ∉ D → ∀ off ∈ cellWords c, windowWord s off = cellValueAt s c off →
      windowWord (Machine.storeHost a l d s) off = cellValueAt s c off := by
    intro c hc off hoff heq
    obtain hsame | ⟨hdst, hmerged⟩ := windowWord_storeHost_cell hm hw hoff a l d
    · rw [hsame, heq]
    · rw [hmerged, heq, hd c off hoff hdst hc, mergeLanes_self]
  exact ⟨h.released, h.list, h.writing, h.settled, h.clearing,
    fun ht => hkeeps .command hD _ (List.mem_singleton.2 rfl) (h.commandCell ht),
    fun c hc => (h.follows c hc).congr (fun _ => .rfl) (by cases c <;> rfl) (fun _ => rfl) fun _ => hkeeps c hc⟩

/-- A host write to no cell's owner. -/
theorem storeHost_of_unowned (h : Published [] s) (hm : MemoryCanonical s) (hw : WindowLaw s)
    (hdst : ∀ c off, destination s a l ≠ cellOwner c off) : Published [] (Machine.storeHost a l d s) :=
  h.storeHost hm hw nofun fun c off _ he => absurd he (hdst c off)

/-- A host write of the command cell, with the cell value that the command unit takes by it (R112, R113). -/
theorem commandStored (h : Published [] s) (hm : MemoryCanonical s) (hw : WindowLaw s)
    (hdst : destination s a l = .command) (hu : s.cmd.unit ≠ .completing) {x : CommandUnit}
    (hx : x.unit ≠ .completing) (hrec : x.record = s.cmd.record) (hval : x.cellValue = mergeLanes l d s.cmd.cellValue) :
    Published [] ((Machine.storeHost a l d s).withCmd x) := by
  obtain ⟨hcommand, hstatus⟩ := h.settled hu
  have hold : windowWord s 0x000 = s.cmd.cellValue :=
    (h.follows .command nofun).memory hcommand _ (List.mem_singleton.2 rfl)
  have hnew : windowWord (Machine.storeHost a l d s) 0x000 = x.cellValue := by
    rw [hval, ← hold]
    exact windowWord_storeHost_owned hm hw (c := .command) (.inl rfl) hdst d
  refine ⟨h.released, h.list, ?_, fun _ => ⟨hcommand, hstatus⟩, fun hc => absurd hc hx, fun _ => hnew, fun c _ => ?_⟩
  · exact hrec ▸ h.writing
  · by_cases hc : c = .command
    · subst hc
      refine ⟨fun v hv => absurd hv ((hasEntry_eq_false_iff _ _).1 hcommand v), fun _ off hoff => ?_⟩
      obtain rfl := List.mem_singleton.1 hoff
      exact hnew
    · have hvals : cellWord ((Machine.storeHost a l d s).withCmd x) c = cellWord s c := by
        cases c with
        | command => exact absurd rfl hc
        | statusRecord => exact congrArg StatusRecord.code hrec
        | _ => rfl
      refine (h.follows c nofun).congr (fun _ => .rfl) hvals (fun _ => hrec) fun _ off hoff heq => ?_
      obtain hsame | ⟨howner, -⟩ := windowWord_storeHost_cell hm hw hoff a l d
      · exact hsame.trans heq
      · rw [hdst] at howner
        cases c with
        | command => exact absurd rfl hc
        | _ => cases howner

/-- A waiting value is replaced of a cell that is not yet published. -/
theorem replaceWaiting {c : Cell} (h : Published (c :: D) s) (hs : c ≠ .statusRecord) (hc : c ≠ .command)
    (v : EntryValue) : Published (c :: D) (replaceWaiting c v s) := by
  unfold Machine.replaceWaiting
  split
  · have hhas : ∀ x, hasEntry x (replaceEntry c v s.ws.updates) = hasEntry x s.ws.updates := fun x => by
      rw [hasEntry_eq, map_cell_replaceEntry, ← hasEntry_eq]
    refine ⟨h.released, ?_, h.writing.replace hs hc v, ?_, ?_, h.commandCell, fun x hx => ?_⟩
    · exact (map_cell_replaceEntry c v s.ws.updates).symm ▸ h.list
    · exact hhas .command ▸ hhas .statusRecord ▸ h.settled
    · exact hhas .command ▸ h.clearing
    · have hne : x ≠ c := fun he => hx (by simp [he])
      refine (h.follows x hx).congr (fun w => ?_) (by cases x <;> rfl) (fun _ => rfl) fun _ _ _ heq => heq
      refine mem_replaceEntry.trans ?_
      simp [hne]
  · exact h

/-- Every entry and word of the last cell left aside follows too. -/
theorem close {c : Cell} (h : Published [c] s) (hc : Follows s c) : Published [] s :=
  ⟨h.released, h.list, h.writing, h.settled, h.clearing, h.commandCell, fun x _ => by
    by_cases hx : x = c
    · exact hx ▸ hc
    · exact h.follows x (by simpa using hx)⟩

/-- A host write of the pending or the consumer cell gives the part the value that memory then holds, and a waiting
update of the cell carries it (R87, R129). -/
theorem hostValue (h : Published [] s) (hm : MemoryCanonical s) (hw : WindowLaw s) {c : Cell}
    (hc : c = .pending ∨ c = .consumer) (hdst : destination s a l = cellOwner c (cellOffset c))
    (hu : Published [c] u) (hus : u.ws.updates = s.ws.updates) (hmem : u.mem = s.mem) (hpass : u.pass = s.pass)
    (hlatch : u.latch = s.latch) {w : Word} (hval : mergeLanes l d (cellWord s c) = w) (hcell : cellWord u c = w) :
    Published [] (Machine.storeHost a l d (Machine.replaceWaiting c (.word w) u)) := by
  have hs : c ≠ .statusRecord := by obtain rfl | rfl := hc <;> decide
  have hcmd : c ≠ .command := by obtain rfl | rfl := hc <;> decide
  generalize hv : Machine.replaceWaiting c (.word w) u = v
  have hvs : v.mem = s.mem ∧ v.pass = s.pass ∧ v.latch = s.latch := by
    rw [← hv]
    simp [hmem, hpass, hlatch]
  obtain ⟨hvm, hvp, hvl⟩ := hvs
  have hdst' : destination v a l = cellOwner c (cellOffset c) := (destination_congr hvp hvl a l).trans hdst
  have hvalue : cellWord v c = w := by
    rw [← hv, ← hcell]
    obtain rfl | rfl := hc <;> simp [cellWord, pendingWord]
  have hstored : Published [c] (Machine.storeHost a l d v) := by
    have hrep : Published [c] v := hv ▸ hu.replaceWaiting hs hcmd _
    refine hrep.storeHost (by rwa [MemoryCanonical, hvm]) (by rwa [WindowLaw, hvp]) (by simpa using hcmd.symm) ?_
    intro x off _ howner hx
    rw [hdst'] at howner
    obtain rfl | rfl := hc <;> cases x <;> simp at hx <;> cases howner
  refine hstored.close ⟨fun x hx => ?_, fun hnone off hoff => ?_⟩
  · have hwaits : ⟨c, x⟩ ∈ replaceEntry c (.word w) u.ws.updates := by
      rw [← updates_replaceWaiting, hv]
      exact hx
    obtain ⟨-, hne⟩ | ⟨-, rfl, -⟩ := mem_replaceEntry.1 hwaits
    · exact absurd rfl hne
    · rw [entryLaw_iff_word hs, if_neg hcmd]
      exact congrArg _ hvalue.symm
  · have hold : windowWord s (cellOffset c) = cellWord s c := by
      have hwaits : hasEntry c s.ws.updates = false := by
        have hmap : hasEntry c v.ws.updates = false := hnone
        rwa [← hv, updates_replaceWaiting, hasEntry_eq, map_cell_replaceEntry, ← hasEntry_eq, hus] at hmap
      have hword := (h.follows c nofun).memory hwaits _ ((mem_cellWords hs).2 rfl)
      rwa [cellValueAt_of_ne hs] at hword
    obtain rfl := (mem_cellWords hs).1 hoff
    have hsame : windowWord v (cellOffset c) = windowWord s (cellOffset c) := by
      simp only [windowWord, windowAddr, hvm, hvp]
    rw [cellValueAt_of_ne hs, windowWord_storeHost_owned (by rwa [MemoryCanonical, hvm]) (by rwa [WindowLaw, hvp])
      (.inr hc) hdst', hsame, hold, hval, ← hvalue]
    obtain rfl | rfl := hc <;> rfl

end Published

/-- What a write of the pending cell leaves pending is what its lanes merge into the cell (R129, R157). -/
theorem mergeLanes_clearedBy (l : Lanes) (d : Word) (p : BitVec 5) :
    mergeLanes l ((clearedBy l d p).setWidth 16) (p.setWidth 16) = (clearedBy l d p).setWidth 16 := by
  have hhigh : ∀ q : BitVec 5, highByte (q.setWidth 16) = 0 := by decide
  cases hl : l.low with
  | true =>
    rw [mergeLanes, hhigh, hhigh, ite_self, hl, if_pos rfl]
    conv_rhs => rw [← joinBytes_bytes ((clearedBy l d p).setWidth 16), hhigh]
  | false =>
    have hsame : clearedBy l d p = p := by simp [clearedBy, hl]
    rw [hsame, mergeLanes_self]

theorem replaceWaiting_storeHost (c : Cell) (v : EntryValue) (a : Nat) (l : Lanes) (d : Word) (s : State) :
    replaceWaiting c v (storeHost a l d s) = storeHost a l d (replaceWaiting c v s) := by
  unfold replaceWaiting
  by_cases h : hasEntry c s.ws.updates = true
  · rw [if_pos h, if_pos (by exact h)]
    rfl
  · rw [if_neg h, if_neg (by exact h)]
/-- The owner of a running command ends it without the command unit (R121). -/
theorem endRunning_cmd (s : State) : (endRunning s).cmd = s.cmd := by
  have hstart : (abortStart s).cmd = s.cmd := by
    unfold abortStart
    dsimp only
    split <;> simp [removePins]
  unfold endRunning
  split
  · exact hstart
  split
  · split
    · rfl
    · simp [abortPreparation, removePins]
  split <;> rfl

namespace Published

variable {s : State}

theorem refuseWrite (h : Published [] s) (hm : MemoryCanonical s) (hw : WindowLaw s) {a : Nat} {l : Lanes}
    (hdst : destination s a l = .command) (collides : Bool) : Published [] (refuseWrite a l collides s) := by
  have hstored : Published [] (Machine.storeHost a l s.cmd.cellValue s) := by
    refine h.storeHost hm hw nofun fun c off _ howner _ => ?_
    rw [hdst] at howner
    cases c with
    | command => rfl
    | _ => cases howner
  unfold Machine.refuseWrite
  dsimp only
  split
  · exact hstored.raise _
  · exact hstored

theorem writeCommandCell (h : Published [] s) (hm : MemoryCanonical s) (hw : WindowLaw s) (hl : UnitLawful s) {a : Nat}
    {l : Lanes} (hdst : destination s a l = .command) (d : Word) : Published [] (writeCommandCell a l d s) := by
  have hstored : ∀ x : CommandUnit, s.cmd.unit ≠ .completing → x.unit ≠ .completing → x.record = s.cmd.record →
      x.cellValue = resultingValue l d s → Published [] ((Machine.storeHost a l d s).withCmd x) :=
    fun _ hu hx hrec hval => h.commandStored hm hw hdst hu hx hrec hval
  unfold Machine.writeCommandCell
  cases hu : s.cmd.unit with
  | idle =>
    dsimp only
    split
    next hzero =>
      obtain ⟨hcell, -⟩ := hl.idle hu
      exact hstored s.cmd (by simp [hu]) (by simp [hu]) rfl (hcell.trans hzero.symm)
    · have htaken := hstored { s.cmd with
        unit := .busy, taken := some (resultingValue l d s), cellValue := resultingValue l d s,
        argument := s.cmd.argCopy } (by simp [hu]) nofun rfl rfl
      exact htaken.runCommand rfl _
  | busy =>
    dsimp only
    split
    next habort =>
      have hended := hstored { s.cmd with cellValue := 8 } (by simp [hu]) (by simp [hu]) rfl habort.symm
      refine hended.endRunning.complete ?_ _ _ _
      rw [endRunning_cmd]
      exact hu
    · exact h.refuseWrite hm hw hdst _
  | completing => exact h.refuseWrite hm hw hdst _

theorem writePending (h : Published [] s) (hm : MemoryCanonical s) (hw : WindowLaw s) {a : Nat} {l : Lanes}
    (hdst : destination s a l = .pendingCell) (d : Word) : Published [] (writePending a l d s) :=
  h.hostValue hm hw (.inl rfl) hdst
    (u := s.withEvents (withPendingSet s.events (clearedBy l d s.events.pendingSet)))
    (h.changedIn [.pending]) rfl rfl rfl rfl (mergeLanes_clearedBy l d s.events.pendingSet) rfl

theorem writeConsumer (h : Published [] s) (hm : MemoryCanonical s) (hw : WindowLaw s) (hl : UnitLawful s) {a : Nat}
    {l : Lanes} (hdst : destination s a l = .consumerCell) (d : Word) : Published [] (writeConsumer a l d s) := by
  unfold Machine.writeConsumer
  dsimp only
  split
  · have htaken := h.hostValue (l := l) (d := d) hm hw (.inr rfl) hdst
      (u := s.withQueue { s.queue with cons := (mergeLanes l d (toWord s.queue.cons)).toNat })
      (h.changedIn [.consumer]) rfl rfl rfl rfl rfl (BitVec.ofNat_toNat ..)
    rw [← replaceWaiting_storeHost] at htaken
    exact askDrain htaken (hl.unseen (Unseen.trans (.of_same {}) (.replaceWaiting .consumer _ _)))
  · refine raise (h.storeHost hm hw nofun fun c off _ howner _ => ?_) _
    rw [hdst] at howner
    cases c with
    | consumer => rfl
    | _ => cases howner

theorem writeGlobalLevel (h : Published [] s) (hm : MemoryCanonical s) (hw : WindowLaw s) (hl : UnitLawful s) {a : Nat}
    {l : Lanes} (hdst : ∀ c off, destination s a l ≠ cellOwner c off) (d : Word) :
    Published [] (writeGlobalLevel a l d s) := by
  have hwatched : ∀ {u : State}, Published [] u → MemoryCanonical u → WindowLaw u → UnitLawful u →
      destination u a l = destination s a l → ∀ reads : Prop, [Decidable reads] →
      Published [] (if reads then Machine.watchWrite 0x024 (Machine.storeHost a l d u) else Machine.storeHost a l d u) := by
    intro u hp hm' hw' hl' hsame reads _
    have hstored := hp.storeHost_of_unowned (l := l) (d := d) hm' hw' (hsame ▸ hdst)
    split
    · exact hstored.watchWrite (hl'.unseen (.storeHost a l d u)) _
    · exact hstored
  unfold Machine.writeGlobalLevel
  cases levelOfWrite l d with
  | none => exact hwatched h hm hw hl rfl _
  | some v =>
    exact hwatched (u := s.withScan { s.scan with pendingLevel := v }) h.changed hm hw (hl.unseen (.of_same {})) rfl _

theorem takeWrite (h : Published [] s) (hm : MemoryCanonical s) (hw : WindowLaw s) (hl : UnitLawful s) (a : Nat)
    (l : Lanes) (d : Word) : Published [] (takeWrite a l d s) := by
  have hunowned : ∀ x, destination s a l = x → (∀ c off, x ≠ cellOwner c off) →
      ∀ c off, destination s a l ≠ cellOwner c off := fun x hx hne => hx ▸ hne
  unfold Machine.takeWrite
  cases hdst : destination s a l with
  | plain => exact h.storeHost_of_unowned hm hw (hunowned _ hdst fun c _ => by cases c <;> nofun)
  | command => exact h.writeCommandCell hm hw hl hdst d
  | argument =>
    exact storeHost_of_unowned (h.changed) hm hw (hunowned _ hdst fun c _ => by cases c <;> nofun)
  | published off =>
    refine h.storeHost hm hw nofun fun c off' hoff howner _ => publishedWord_eq hoff ?_
    exact hdst.symm.trans howner
  | pendingCell => exact h.writePending hm hw hdst d
  | enableCell =>
    simp only [writeEnable]
    split
    all_goals exact storeHost_of_unowned (h.changed) hm hw (hunowned _ hdst fun c _ => by cases c <;> nofun)
  | consumerCell => exact h.writeConsumer hm hw hl hdst d
  | globalLevel => exact h.writeGlobalLevel hm hw hl (hunowned _ hdst fun c _ => by cases c <;> nofun) d
  | watched off =>
    exact watchWrite (h.storeHost_of_unowned hm hw (hunowned _ hdst fun c _ => by cases c <;> nofun))
      (hl.unseen (.storeHost a l d s)) off
  | pattern off =>
    exact storeHost_of_unowned (h.changed) hm hw (hunowned _ hdst fun c _ => by cases c <;> nofun)

theorem takeCycle (h : Published [] s) (hm : MemoryCanonical s) (hw : WindowLaw s) (hl : UnitLawful s) (c : HostCycle) :
    Published [] (takeCycle c (grantHost s)) := by
  have hgranted : Published [] (grantHost s) := h.changed
  cases c with
  | read a l => exact hgranted.changed
  | write a l d => exact hgranted.takeWrite hm hw (hl.unseen (.of_same {})) a l d

end Published
/-! ### The write stage's writes (R137, R138) -/

/-- The entry of a cell leaves the list. -/
theorem Unseen.dropEntry (c : Cell) (s : State) :
    Unseen s (s.withWs { s.ws with updates := dropEntry c s.ws.updates }) :=
  .withUpdates fun hnone => by simp [hasEntry_dropEntry, hnone]

/-- The words of the status record are no other cell's. -/
theorem eq_statusRecord_of_mem {c : Cell} {k : Nat} (hk : k < 4) (h : 0x008 + 2 * k ∈ cellWords c) :
    c = .statusRecord := by
  revert k
  cases c <;> decide

theorem mem_countStatusWord_of_ne {c : Cell} (hc : c ≠ .statusRecord) (k : Nat) (v : EntryValue) (us : List Entry) :
    ⟨c, v⟩ ∈ countStatusWord k us ↔ ⟨c, v⟩ ∈ us := by
  simp only [countStatusWord, List.mem_map]
  constructor
  · rintro ⟨e, he, heq⟩
    split at heq
    · cases heq
      exact absurd rfl hc
    · exact heq ▸ he
  · intro hv
    refine ⟨_, hv, ?_⟩
    split
    next heq =>
      cases heq
      exact absurd rfl hc
    · rfl

/-- The status record's entry counts one word more. -/
theorem mem_countStatusWord {k : Nat} {v : EntryValue} {us : List Entry} (h : ⟨.statusRecord, v⟩ ∈ countStatusWord k us) :
    (∃ w, v = .word w ∧ ⟨.statusRecord, v⟩ ∈ us) ∨
      ∃ q j, v = .status q (k + 1) ∧ (⟨.statusRecord, .status q j⟩ : Entry) ∈ us := by
  simp only [countStatusWord, List.mem_map] at h
  obtain ⟨e, he, heq⟩ := h
  split at heq
  next q j =>
    cases heq
    exact .inr ⟨q, j, rfl, he⟩
  next hno =>
    subst heq
    cases v with
    | word w => exact .inl ⟨w, rfl, he⟩
    | status q j => exact absurd rfl (hno q j)

namespace Published

variable {s : State}

/-- The cell whose write is under way has its entry waiting, at the head (R137). -/
theorem waiting_of_write (h : Published [] s) {c : Cell} {d : Word} {r : Bool}
    (hp : s.arb.port = .write (.cell c) d r) : c ≠ .statusRecord ∧ hasEntry c s.ws.updates = true := by
  cases r with
  | false =>
    have hmem := List.mem_of_head? (h.writing.cell c d hp)
    refine ⟨fun hc => ?_, (hasEntry_iff _ _).2 ⟨_, hmem⟩⟩
    subst hc
    exact (h.follows .statusRecord nofun).entry _ hmem
  | true =>
    obtain ⟨hs, -, hhead⟩ := h.writing.replaced c d hp
    obtain ⟨e, he, rfl⟩ := Option.map_eq_some_iff.1 hhead
    exact ⟨hs, (hasEntry_iff _ _).2 ⟨e.value, List.mem_of_head? he⟩⟩

/-- The word written carries the part's own value, or goes to a cell with a value still waiting; the entry it serves is
left in the list here. -/
theorem partWritten (h : Published [] s) (hm : MemoryCanonical s) (hw : WindowLaw s) {t : WriteTarget} {d : Word}
    {r : Bool} (hp : s.arb.port = .write t d r) (ht : t ≠ .cell .command) : Published [] (partWritten t d s) := by
  have hkeeps : ∀ c, (hasEntry c s.ws.updates = false ∨ c = .statusRecord) ∨ c = .command →
      ∀ off ∈ cellWords c, windowWord s off = cellValueAt s c off →
      windowWord (Machine.partWritten t d s) off = cellValueAt s c off := by
    intro c hc off hoff heq
    obtain ⟨heven, hle⟩ := cellWords_even hoff
    rw [windowWord_partWritten hm hw heven]
    split
    next htarget =>
      subst htarget
      cases t with
      | cell c' =>
        obtain ⟨hs, hwaits⟩ := h.waiting_of_write hp
        have hcc : c = c' := by
          by_contra hne
          exact cellOffset_not_mem hs hne hoff
        subst hcc
        obtain (hnone | hst) | hcmd := hc
        · simp [hwaits] at hnone
        · exact absurd hst hs
        · exact absurd (congrArg _ hcmd) ht
      | status k =>
        obtain ⟨hk, rfl, -⟩ := h.writing.status k d r hp
        obtain rfl := eq_statusRecord_of_mem (Nat.lt_succ_of_le hk) hoff
        exact (cellValueAt_status s k).symm
      | record p k =>
        simp only [targetOffset, Config.ringBase] at hle
        omega
    · exact heq
  refine ⟨h.released, h.list, .of_free rfl, h.settled, h.clearing,
    fun htaken => hkeeps .command (.inr rfl) _ (List.mem_singleton.2 rfl) (h.commandCell htaken), fun c _ => ?_⟩
  exact (h.follows c nofun).congr (fun _ => .rfl) (by cases c <;> rfl) (fun _ => rfl) fun hc => hkeeps c (.inl hc)

/-- An entry leaves the list once memory holds the part's own value of its cell (R138). -/
theorem dropEntry (h : Published [] s) {c : Cell} (hp : s.arb.port = .free) (hc : c ≠ .command)
    (hmem : ∀ off ∈ cellWords c, windowWord s off = cellValueAt s c off) :
    Published [] (s.withWs { s.ws with updates := dropEntry c s.ws.updates }) := by
  refine ⟨h.released, h.list.sublist (List.filter_sublist.map _), .of_free hp, fun hu => ?_, fun hu => ?_, h.commandCell,
    fun x _ => ?_⟩
  · obtain ⟨hcommand, hstatus⟩ := h.settled hu
    simp [hasEntry_dropEntry, hcommand, hstatus]
  · have hwaits := h.clearing hu
    simp [hasEntry_dropEntry, hwaits, Ne.symm hc]
  · by_cases hx : x = c
    · subst hx
      refine ⟨fun v hv => ?_, fun _ off hoff => (hmem off hoff).trans (by cases x <;> rfl)⟩
      obtain ⟨-, hne⟩ := mem_dropEntry.1 hv
      exact absurd rfl hne
    · exact (h.follows x nofun).congr (fun v => by simp [mem_dropEntry, hx]) (by cases x <;> rfl) (fun _ => rfl)
        fun _ _ _ heq => heq

/-- With a word of the status record the words before it stand in memory too (R137). -/
theorem statusWords (h : Published [] s) (hm : MemoryCanonical s) (hw : WindowLaw s) {k : Nat} {d : Word} {r : Bool}
    (hp : s.arb.port = .write (.status k) d r) {j : Nat} (hj : j ≤ k) :
    windowWord (Machine.partWritten (.status k) d s) (0x008 + 2 * j) = statusWord s.cmd.record j := by
  obtain ⟨-, rfl, hhead⟩ := h.writing.status k d r hp
  obtain ⟨i, hi, -, hwritten⟩ := (entryLaw_iff_status _).1 ((h.follows .statusRecord nofun).entry _ (List.mem_of_head? hhead))
  cases hi
  rw [windowWord_partWritten hm hw (by omega)]
  by_cases hlast : j = k
  · subst hlast
    exact if_pos rfl
  · rw [if_neg (by simp only [targetOffset]; omega), hwritten j (by omega)]

/-- A word of the status record, not its last, has been written (R138). -/
theorem statusWritten (h : Published [] s) (hm : MemoryCanonical s) (hw : WindowLaw s) {k : Nat} {d : Word} {r : Bool}
    (hp : s.arb.port = .write (.status k) d r) (hlast : k < 3) :
    Published [] ((Machine.partWritten (.status k) d s).withWs
      { s.ws with updates := countStatusWord k s.ws.updates }) := by
  have hhas : ∀ c, hasEntry c (countStatusWord k s.ws.updates) = hasEntry c s.ws.updates := fun c => by
    rw [hasEntry_eq, map_cell_countStatusWord, ← hasEntry_eq]
  have hstored := h.partWritten hm hw hp nofun
  obtain ⟨-, -, hhead⟩ := h.writing.status k d r hp
  refine ⟨h.released, ?_, .of_free rfl, ?_, ?_, hstored.commandCell, fun c _ => ?_⟩
  · exact (map_cell_countStatusWord k s.ws.updates).symm ▸ h.list
  · exact hhas .command ▸ hhas .statusRecord ▸ h.settled
  · exact hhas .command ▸ h.clearing
  · by_cases hc : c = .statusRecord
    · subst hc
      refine ⟨fun v hv => ?_, fun hnone => ?_⟩
      · obtain ⟨w, rfl, hwaits⟩ | ⟨q, j, rfl, hwaits⟩ := mem_countStatusWord hv
        · exact absurd ((h.follows .statusRecord nofun).entry _ hwaits) id
        · obtain ⟨_, heq, -⟩ := (entryLaw_iff_status _).1 ((h.follows .statusRecord nofun).entry _ hwaits)
          cases heq
          exact (entryLaw_iff_status _).2 ⟨k + 1, rfl, hlast, fun j hj => h.statusWords hm hw hp (Nat.le_of_lt_succ hj)⟩
      · have hwaits : hasEntry .statusRecord s.ws.updates = false := hhas .statusRecord ▸ hnone
        exact absurd (List.mem_of_head? hhead) ((hasEntry_eq_false_iff _ _).1 hwaits _)
    · exact (hstored.follows c nofun).congr (fun v => mem_countStatusWord_of_ne hc k v _) (by cases c <;> rfl)
        (fun _ => rfl) fun _ _ _ heq => heq

/-- The clearing of the command cell has been written: the cell holds 0 and nothing is taken (R119). -/
theorem commandCleared (h : Published [] s) (hm : MemoryCanonical s) (hw : WindowLaw s) {d : Word}
    (hp : s.arb.port = .write (.cell .command) d false) :
    Published [] (((Machine.partWritten (.cell .command) d s).withWs
      { s.ws with updates := Machine.dropEntry .command s.ws.updates }).withCmd
        { s.cmd with unit := .idle, cellValue := 0, taken := none }) := by
  have hhead := h.writing.cell .command d hp
  obtain rfl : d = 0 := by
    have hlaw := (h.follows .command nofun).entry _ (List.mem_of_head? hhead)
    rw [entryLaw_iff_word (by decide), if_pos rfl] at hlaw
    exact EntryValue.word.inj hlaw
  have hword : ∀ off, off % 2 = 0 → windowWord (Machine.partWritten (.cell .command) 0 s) off =
      if off = 0x000 then 0 else windowWord s off := fun off heven => windowWord_partWritten hm hw heven _ _
  have hstatus : hasEntry .statusRecord s.ws.updates = false := by
    obtain ⟨us, hus⟩ : ∃ us, s.ws.updates = ⟨.command, .word 0⟩ :: us := List.head?_eq_some_iff.1 hhead
    have horder := h.list.order
    rw [hus, List.map_cons, List.pairwise_cons] at horder
    rw [hasEntry_eq, hus, decide_eq_false_iff_not, List.map_cons, List.mem_cons, not_or]
    exact ⟨nofun, fun hmem => horder.1 _ hmem ⟨rfl, rfl⟩⟩
  refine ⟨h.released, h.list.sublist (List.filter_sublist.map _), .of_free rfl, fun _ => ?_, nofun,
    fun hne => absurd rfl hne, fun c _ => ?_⟩
  · exact ⟨by simp [hasEntry_dropEntry], by simpa [hasEntry_dropEntry] using hstatus⟩
  · by_cases hc : c = .command
    · subst hc
      refine ⟨fun v hv => ?_, fun _ off hoff => ?_⟩
      · obtain ⟨-, hne⟩ := mem_dropEntry.1 hv
        exact absurd rfl hne
      · obtain rfl := List.mem_singleton.1 hoff
        exact (hword 0 rfl).trans (if_pos rfl)
    · refine (h.follows c nofun).congr (fun v => ?_) ?_ (fun _ => rfl) ?_
      · exact mem_dropEntry.trans (and_iff_left hc)
      · cases c with
        | command => exact absurd rfl hc
        | _ => rfl
      · intro _ off hoff heq
        refine (hword off (cellWords_even hoff).1).trans ?_
        rw [if_neg, heq]
        rintro rfl
        exact cellOffset_not_mem (c := .command) (by decide) hc hoff

/-- The write of a one-word cell under way puts the part's own value there (R137). -/
theorem cellStands (h : Published [] s) (hm : MemoryCanonical s) (hw : WindowLaw s) {c : Cell} {d : Word}
    (hp : s.arb.port = .write (.cell c) d false) (hc : c ≠ .command) (off : Nat) (hoff : off ∈ cellWords c) :
    windowWord (Machine.partWritten (.cell c) d s) off = cellValueAt (Machine.partWritten (.cell c) d s) c off := by
  obtain ⟨hs, -⟩ := h.waiting_of_write hp
  have hlaw := (h.follows c nofun).entry _ (List.mem_of_head? (h.writing.cell c d hp))
  rw [entryLaw_iff_word hs, if_neg hc] at hlaw
  cases hlaw
  obtain rfl := (mem_cellWords hs).1 hoff
  rw [windowWord_partWritten hm hw (cellWords_even hoff).1, cellValueAt_of_ne hs]
  refine (if_pos rfl).trans ?_
  cases c <;> rfl

theorem cellWritten (h : Published [] s) (hl : UnitLawful s) {c : Cell} (hc : c ≠ .command) :
    Published [] (cellWritten c s) := by
  cases c with
  | command => exact absurd rfl hc
  | producer =>
    simp only [Machine.cellWritten, producerWritten]
    split
    · exact raise (h.changed) _
    · exact h
  | consumer =>
    simp only [Machine.cellWritten, consumerWritten]
    split
    next hf => exact h.completeTaken (hl.quiet_of_flushRuns hf).1.unit _ _
    · exact h
  | statusRecord | pending | shownBase | scanState => exact h

/-- Whatever write of the write stage ends, the cells follow (R138). -/
theorem endWrite (h : Published [] s) (hm : MemoryCanonical s) (hw : WindowLaw s) (hl : UnitLawful s) {t : WriteTarget}
    {d : Word} {r : Bool} (hp : s.arb.port = .write t d r) : Published [] (endWrite t d r s) := by
  have hstored : t ≠ .cell .command → Published [] (Machine.partWritten t d s) := h.partWritten hm hw hp
  have hunseen : UnitLawful (Machine.partWritten t d s) := hl.unseen (.partWritten t d s)
  have hadvanced : ∀ u, Unseen u (advanceProducer u) := fun _ =>
    Unseen.trans (.of_same {}) (.publish (c := .producer) (by decide) _)
  cases t with
  | cell c =>
    cases r with
    | true =>
      obtain ⟨-, hc, -⟩ := h.writing.replaced c d hp
      exact hstored (by simpa using hc)
    | false =>
      by_cases hc : c = .command
      · subst hc
        have hcleared := h.commandCleared hm hw hp
        rw [endWrite_command, endCompleting]
        dsimp only
        split
        · exact hcleared.raise _
        · exact hcleared
      · have hdropped := (hstored (by simpa using hc)).dropEntry rfl hc (h.cellStands hm hw hp hc)
        exact hdropped.cellWritten (hunseen.unseen (.dropEntry c _)) hc
  | status k =>
    unfold Machine.endWrite
    dsimp only
    split
    next hlast => exact h.statusWritten hm hw hp hlast
    next hlast =>
      refine (hstored nofun).dropEntry rfl (by decide) fun off hoff => ?_
      obtain ⟨j, hj, rfl⟩ := mem_statusWords.1 hoff
      rw [h.statusWords hm hw hp (by omega), cellValueAt_status]
      rfl
  | record p k =>
    unfold Machine.endWrite
    dsimp only
    split
    · exact changed (hstored nofun)
    · have hproduced : Published [] (advanceProducer (Machine.partWritten (.record p k) d s)) :=
        publish ((hstored nofun).changedIn [.producer])
      have hsettled := hunseen.unseen (hadvanced _)
      exact askDrain (hproduced.settleLength hsettled) (unitLawful_settleLength hsettled)

end Published
/-! ### Grants, RESET and every step -/

/-- The write of a status word that a grant begins is of the entry at the head of the list (R137). -/
theorem partCycle_status {c : PartClass} {k : Nat} {d : Word} {r : Bool} {s : State}
    (h : partCycle c s = .write (.status k) d r) :
    ∃ x q, d = statusWord q k ∧ s.ws.updates.head? = some ⟨x, .status q k⟩ := by
  cases c with
  | demand | prefetch =>
    simp only [partCycle, fillCycle] at h
    split at h
    · cases h
    · split at h <;> cases h
  | latch => cases h
  | write =>
    simp only [partCycle, nextWrite] at h
    split at h
    next hn =>
      cases h
      split at hn
      · cases hn
      next x q j us hus =>
        cases hn
        exact ⟨x, q, rfl, by rw [hus]; rfl⟩
      · split at hn <;> cases hn
    · cases h

namespace Published

variable {s t : State}

theorem grantPart (h : Published [] s) (p : PartClass) : Published [] (grantPart p s) := by
  refine h.changed (hwriting := fun _ => ⟨fun c d hp => ?_, fun c d hp => ?_, fun k d r hp => ?_⟩)
  · exact (partCycle_cell (by exact hp : partCycle p s = _)).2
  · obtain ⟨hr, -⟩ := partCycle_cell (by exact hp : partCycle p s = .write (.cell c) d true)
    cases hr
  · obtain ⟨x, q, rfl, hhead⟩ := partCycle_status (by exact hp : partCycle p s = _)
    have hlaw := (h.follows x nofun).entry _ (List.mem_of_head? hhead)
    by_cases hx : x = .statusRecord
    · subst hx
      obtain ⟨j, hj, hk, -⟩ := (entryLaw_iff_status _).1 hlaw
      cases hj
      exact ⟨hk, rfl, hhead⟩
    · rw [entryLaw_iff_word hx] at hlaw
      cases hlaw

theorem presentCycle (h : Published [] s) (c : HostCycle) : Published [] (presentCycle c s) := by
  unfold Machine.presentCycle
  split
  next hheld => simp [h.released] at hheld
  · split
    · exact h
    · exact h.changed

theorem readWord1 (h : Published [] s) (hl : UnitLawful s) (n : Nat) (idx : PatternIndex) :
    Published [] (readWord1 n idx s) := by
  have hplaced := h.placeWord1 n idx
  have hl' : UnitLawful (Machine.placeWord1 n idx s) := hl.unseen (.placeWord1 n idx s)
  have hnext : ∀ reports : Prop, [Decidable reports] →
      Published [] (if reports then Machine.reportNext (Machine.placeWord1 n idx s) else Machine.placeWord1 n idx s)
      ∧ UnitLawful (if reports then Machine.reportNext (Machine.placeWord1 n idx s) else Machine.placeWord1 n idx s) := by
    intro reports _
    split
    · exact ⟨hplaced.reportNext, unitLawful_reportNext hl'⟩
    · exact ⟨hplaced, hl'⟩
  unfold Machine.readWord1
  dsimp only
  split
  · obtain ⟨hp, hu⟩ := hnext (lineHasPin .next s.cache.lines n = true)
    exact hp.reportCurrent fun hst => (hu.start_of_starting hst).1.unit
  · exact (hnext _).1

end Published

/-- The list of the initial publication, in the order of R126. -/
def initialUpdates (s : State) : List Entry :=
  [⟨.pending, .word (pendingWord s)⟩, ⟨.producer, .word (toWord s.queue.prod)⟩, ⟨.consumer, .word (toWord s.queue.cons)⟩,
    ⟨.shownBase, .word (shownBaseWord s)⟩, ⟨.scanState, .word (scanStateWord s)⟩,
    ⟨.statusRecord, .status ⟨0, resultCode .reset, 0, 0⟩ 0⟩, ⟨.command, .word s.cmd.cellValue⟩]

theorem initialPublication_eq {s : State} (hus : s.ws.updates = []) (hp : s.arb.port = .free) :
    initialPublication s = (s.withCmd { s.cmd with record := ⟨0, resultCode .reset, 0, 0⟩ }).withWs
      { s.ws with updates := initialUpdates s } := by
  obtain ⟨pass, ⟨n, m, p⟩, ⟨us, staging, progress⟩, cmd, latch, scan, cache, switch, keys, queue, events, mem, fc, pending⟩ := s
  cases hus
  cases hp
  rfl

/-- The initial publication places an update for every cell, each with the part's value (R126). -/
theorem published_initialPublication {s : State} (hheld : s.pass.resetHeld = false) (hus : s.ws.updates = [])
    (hp : s.arb.port = .free) (hu : s.cmd.unit = .completing) (htaken : s.cmd.taken = none)
    (hcell : s.cmd.cellValue = 0) : Published [] (initialPublication s) := by
  rw [initialPublication_eq hus hp]
  have hlist : (initialUpdates s).map Entry.cell =
      [.pending, .producer, .consumer, .shownBase, .scanState, .statusRecord, .command] := rfl
  have hwaits : ∀ c, hasEntry c (initialUpdates s) = true := fun c => by
    rw [hasEntry_eq, hlist]
    cases c <;> rfl
  refine ⟨hheld, ?_, .of_free hp, fun hne => absurd hu hne, fun _ => hwaits .command, fun hne => absurd htaken hne,
    fun c _ => ⟨fun v hv => ?_, fun hnone => absurd (hwaits c) (Bool.eq_false_iff.1 hnone)⟩⟩
  · show ListLawful ((initialUpdates s).map Entry.cell)
    rw [hlist]
    exact ⟨by decide, by decide⟩
  · have hv' : (⟨c, v⟩ : Entry) ∈ initialUpdates s := hv
    simp only [initialUpdates, List.mem_cons, List.not_mem_nil, or_false, Entry.mk.injEq] at hv'
    obtain ⟨rfl, rfl⟩ | ⟨rfl, rfl⟩ | ⟨rfl, rfl⟩ | ⟨rfl, rfl⟩ | ⟨rfl, rfl⟩ | ⟨rfl, rfl⟩ | ⟨rfl, rfl⟩ := hv'
    case inr.inr.inr.inr.inr.inl => exact ⟨rfl, by decide, nofun⟩
    case inr.inr.inr.inr.inr.inr => exact hcell
    all_goals rfl

/-- The cells follow the part, or RESET is held and nothing waits (R125, R141). -/
def CellsLawful (s : State) : Prop := (s.pass.resetHeld = true ∧ Blank s) ∨ Published [] s

/-- While RESET is not held every happening but its assertion leaves the cells following. -/
theorem published_happening {s t : State} (h : Published [] s) (hm : MemoryCanonical s) (hw : WindowLaw s)
    (hl : UnitLawful s) (hh : Happening s t) : CellsLawful t := by
  cases hh with
  | resetAsserted => exact .inl ⟨rfl, rfl, rfl, rfl, rfl, rfl⟩
  | resetReleased straps hheld => simp [h.released] at hheld
  | nothing => exact .inr h
  | presented c => exact .inr (h.presentCycle c)
  | hostCycle c => exact .inr (h.takeCycle hm hw hl c)
  | partGranted p => exact .inr (h.grantPart p)
  | latchRead off => exact .inr (h.endLatchRead hl off)
  | writeDone t d r hp => exact .inr (h.endWrite hm hw hl hp)
  | lengthSettled => exact .inr (h.settleLength hl)
  | word0Read n idx => exact .inr (h.readWord0 n idx)
  | word1Read n idx => exact .inr (h.readWord1 hl n idx)
  | readDiscarded => exact .inr h.freed
  | currentReported => exact .inr (h.reportCurrent fun hst => (hl.start_of_starting hst).1.unit)
  | nextReported => exact .inr h.reportNext
  | slotStarted i => exact .inr (h.startSlot i)
  | litEnded => exact .inr h.changed
  | onTimeEnded sense => exact .inr (h.endOnTime sense)
  | boundary => exact .inr (h.takeBoundary hl)
  | drainAsked => exact .inr (h.askDrain hl)

/-- While RESET is held a host cycle may be made, or RESET is released; nothing else happens (R148, R149). -/
theorem blank_happening {s t : State} (hheld : s.pass.resetHeld = true) (h : Blank s) (hl : UnitLawful s)
    (hh : Happening s t) : CellsLawful t := by
  have hblank : CellsLawful s := .inl ⟨hheld, h⟩
  obtain ⟨hu, hfree⟩ := hl.held hheld
  obtain ⟨hlatch, hswitch, hreset, hst, hacc⟩ := hl.completing hu
  obtain ⟨hus, hstaging, hoff, htaken, hcell⟩ := id h
  cases hh with
  | nothing => exact hblank
  | resetAsserted hreleased => simp [hheld] at hreleased
  | resetReleased straps => exact .inr (published_initialPublication rfl hus hfree hu htaken hcell)
  | presented c =>
    rw [presentCycle, if_pos hheld]
    cases c with
    | read a l => exact .inl ⟨hheld, h⟩
    | write a l d => exact .inl ⟨hheld, h⟩
  | hostCycle c hg =>
    obtain ⟨hreleased, -⟩ := hg
    simp [hheld] at hreleased
  | partGranted p hd => simp [canDecide, hheld] at hd
  | latchRead off hp => simp [hfree] at hp
  | writeDone t d r hp => simp [hfree] at hp
  | lengthSettled => rwa [settleLength_of_none hacc]
  | word0Read n idx hp => simp [hfree] at hp
  | word1Read n idx hp => simp [hfree] at hp
  | readDiscarded n idx w hp => simp [hfree] at hp
  | currentReported =>
    have hnone : reportCurrent s = s := if_neg fun hc => hst ((currentResident_iff s).1 hc).1
    rwa [hnone]
  | nextReported =>
    have hnone : reportNext s = s := if_neg fun hc => by
      have hprep := ((nextResident_iff s).1 hc).1
      simp [hswitch] at hprep
    rwa [hnone]
  | slotStarted i hrun => simp [hoff] at hrun
  | litEnded hrun => simp [hoff] at hrun
  | onTimeEnded sense hrun => simp [hoff] at hrun
  | boundary hdue => simp [boundaryDue, hoff] at hdue
  | drainAsked hne => exact absurd hreset hne

/-- A law that the changes of the cache and those beside it keep is kept by every happening. -/
theorem Happening.keeps {P : State → Prop} (haside : ∀ s t, P s → Aside s t → P t)
    (hcache : ∀ s t, P s → CacheStep s t → P t) {s t : State} (h : P s) (hh : Happening s t) : P t := by
  have hrun : ∀ {s t}, P s → AsideRun s t → P t := fun h hr => by
    induction hr with
    | refl => exact h
    | tail _ hc ih => exact haside _ _ ih hc
  obtain ⟨u, v, hu, rfl | hstep, hv⟩ := hh.course
  · exact hrun (hrun h hu) hv
  · exact hrun (hcache _ _ (hrun h hu) hstep) hv

/-- What the law of the cells rests on and what it says of them, of one state. -/
structure PartFollowed (s : State) : Prop where
  canonical : MemoryCanonical s
  window : WindowLaw s
  unit : UnitLawful s
  cells : CellsLawful s

theorem partFollowed_happening {s t : State} (h : PartFollowed s) (hh : Happening s t) : PartFollowed t where
  canonical := hh.keeps (fun _ _ => memoryCanonical_aside) (fun _ _ => memoryCanonical_cacheStep) h.canonical
  window := hh.keeps (fun _ _ => windowLaw_aside) (fun _ _ => windowLaw_cacheStep) h.window
  unit := unitLawful_happening h.unit hh
  cells := by
    obtain ⟨hheld, hblank⟩ | hp := h.cells
    · exact blank_happening hheld hblank h.unit hh
    · exact published_happening hp h.canonical h.window h.unit hh

/-- What neither the cells nor what they rest on sees: the command queue, and a tick counted down. -/
theorem PartFollowed.same {s t : State} (h : PartFollowed s) (hmem : t.mem = s.mem) (hpass : t.pass = s.pass)
    (hunit : UnitLawful t) (hblank : Blank s → Blank t) (hp : Published [] s → Published [] t) : PartFollowed t where
  canonical := by rw [MemoryCanonical, hmem]; exact h.canonical
  window := by rw [WindowLaw, hpass]; exact h.window
  unit := hunit
  cells := h.cells.imp (fun ⟨hheld, hb⟩ => ⟨by rw [hpass, hheld], hblank hb⟩) hp

/-- The laws of the published cells, in the parts by which they are kept. -/
theorem publishedCellsLaw_iff_followed {s : State} (hm : MemoryCanonical s) :
    PublishedCellsLaw s ↔ QueueLaw s ∧ PartFollowed s := by
  rw [publishedCellsLaw_iff, commandLaw_iff]
  constructor
  · rintro ⟨hl, hq, hw, hblank, hp⟩
    refine ⟨hq, hm, hw, hl, ?_⟩
    cases hheld : s.pass.resetHeld with
    | true => exact .inl ⟨hheld, hblank hheld⟩
    | false => exact .inr (hp hheld)
  · rintro ⟨hq, -, hw, hl, ⟨hheld, hblank⟩ | hp⟩
    · exact ⟨hl, hq, hw, fun _ => hblank, fun hreleased => by simp [hheld] at hreleased⟩
    · exact ⟨hl, hq, hw, fun hheld => by simp [hp.released] at hheld, fun _ => hp⟩

/-- Settles O12: every happening of a row and every tick counted down keeps the cells following the part. -/
theorem publishedCellsFollowPart : Obligations.PublishedCellsFollowPart := by
  intro s t hm h hst
  obtain ⟨hqueue, hfollowed⟩ := (publishedCellsLaw_iff_followed hm).1 h
  have hkept : PartFollowed t := step_keeps
    (fun s q hf => hf.same rfl rfl (hf.unit.unseen (.of_same {})) id fun hp => hp.changed)
    (fun _ _ => partFollowed_happening)
    (fun s n dark _ hf => hf.same rfl rfl (unitLawful_tickCounted hf.unit n dark) id fun hp => hp.changed) hfollowed hst
  exact (publishedCellsLaw_iff_followed hkept.canonical).2 ⟨queueStaysWithinRing s t hqueue hst, hkept⟩
end Sys2Proof.Machine
end


/-! PROOFS of the event unit's statements (O24, O39): a write of the pending cell, then a raise. The kinds are read at
their positions in the cells, and an update of a waiting cell is its replacement. -/

section
-- Proofs are elaborated one after another: in parallel their threads' stacks outgrow the checker's memory limit.
set_option Elab.async false

namespace Sys2Proof.Machine

/-! ## Writes of the pending cell (R129) -/

/-- PENDING_CELL_WRITE takes the granted write. -/
theorem exec_pendingCellWrite {s : State} {a : Nat} {l : Lanes} {d : Word} (h : WriteGranted s a l d .pendingCell) :
    exec .pendingCellWrite s = .next (writePending a l d (grantHost s)) := by
  have hkind : isPendingWrite a l d s = true := decide_eq_true h.2
  simp only [exec, execPendingCellWrite, takeRow_of_writeGranted h hkind, takeWrite, destination_grantHost, h.2]

/-- Settles O24: a granted write finds the port free, so replacing the waiting value marks no write under way. -/
theorem pendingCellWriteRemovesKinds : Obligations.PendingCellWriteRemovesKinds := by
  rintro s a l d hw p rfl
  rw [exec_pendingCellWrite hw, writePending, replaceWaiting_of_free (by exact port_grantHost hw.1)]
  rfl

/-! ## The kinds at their positions (R157) -/

/-- The position of a kind in the pending and enable cells. -/
def kindPosition : EventKind → Nat
  | .commandDone => 0
  | .queueData => 1
  | .queueError => 2
  | .collision => 3
  | .underrun => 4

theorem kindBit_eq_shift (k : EventKind) : kindBit k = 1 <<< kindPosition k := by cases k <;> rfl

theorem hasKind_eq_getLsbD (p : BitVec 5) (k : EventKind) : hasKind p k = p.getLsbD (kindPosition k) := by
  revert p
  cases k <;> decide

/-- INT is asserted while a pending kind is enabled (R132). -/
theorem intOf_eq_decide (p enableSet : BitVec 5) : intOf p enableSet = decide (p &&& enableSet ≠ 0) := by
  rw [Bool.eq_iff_iff]
  simp [intOf]

/-! ## Raises (R128, R136, R138) -/

/-- A kind already pending leaves no trace. -/
theorem raise_of_pending {k : EventKind} {s : State} (h : hasKind s.events.pendingSet k = true) : raise k s = s :=
  if_pos h

/-- A kind not pending joins the set, and the pending cell's update carries the set it has joined. -/
theorem raise_of_not_pending {k : EventKind} {s : State} {p : BitVec 5} (h : hasKind s.events.pendingSet k = false)
    (hp : p = s.events.pendingSet ||| kindBit k) :
    raise k s = placeUpdate .pending (.word (p.setWidth 16)) (s.withEvents (withPendingSet s.events p)) := by
  subst hp
  exact if_neg (by simp [h])

/-- With an entry of the cell, its value is replaced in place, and a write of the cell under way is marked. -/
theorem placeUpdate_of_waiting {s : State} {c : Cell} (h : hasEntry c s.ws.updates = true) (v : EntryValue) :
    placeUpdate c v s = (s.withWs { s.ws with updates := replaceEntry c v s.ws.updates }).withArb
      { s.arb with port := markReplaced c s.arb.port } := by
  rw [placeUpdate, if_pos h, replaceWaiting, if_pos h]

theorem markReplaced_same (c : Cell) (d : Word) (r : Bool) :
    markReplaced c (.write (.cell c) d r) = .write (.cell c) d true := by
  simp [markReplaced]

theorem markReplaced_of_ne {c : Cell} {p : PortCycle} (h : ∀ d r, p ≠ .write (.cell c) d r) : markReplaced c p = p := by
  unfold markReplaced
  split
  next c' d r =>
    have hne : c' ≠ c := fun hc => h d r (hc ▸ rfl)
    simp [hne]
  · rfl

/-- Settles O39: the kind's bit is its position, and the pending cell either has an entry or has none. -/
theorem raiseJoinsPendingSet : Obligations.RaiseJoinsPendingSet := by
  intro s t k i p hposition hp ht
  have hi : i = kindPosition k := by
    simp only [List.mem_cons, Prod.mk.injEq, List.not_mem_nil, or_false] at hposition
    obtain ⟨rfl, rfl⟩ | ⟨rfl, rfl⟩ | ⟨rfl, rfl⟩ | ⟨rfl, rfl⟩ | ⟨rfl, rfl⟩ := hposition
    all_goals rfl
  have ht' : t = s.withEvents (withPendingSet s.events p) := by rw [ht, withPendingSet, intOf_eq_decide]
  rw [hi, ← hasKind_eq_getLsbD]
  rw [hi, ← kindBit_eq_shift] at hp
  refine ⟨raise_of_pending, fun hnew hnone => ?_, fun hnew hsome => ?_⟩
  · have hentry : hasEntry .pending t.ws.updates = false := by simpa [ht, hasEntry] using hnone
    rw [raise_of_not_pending hnew hp, ← ht', placeUpdate_of_none hentry, ht]
    rfl
  · have hentry : hasEntry .pending t.ws.updates = true := by simpa [ht, hasEntry] using hsome
    have harb : t.arb = s.arb := by rw [ht]; rfl
    rw [raise_of_not_pending hnew hp, ← ht', placeUpdate_of_waiting hentry, harb]
    split
    next d r hport => rw [hport, markReplaced_same, ht]; rfl
    next hport => rw [markReplaced_of_ne hport, ht]; rfl

end Sys2Proof.Machine
end


/-! PROOFS of the write stage's statements (O14, O23, O40, O58). First what the end of a part write leaves of memory: the
word written, whatever its owners then do. Then the update list, host writes to published cells, and the end of a write
target by target. -/

section
-- Proofs are elaborated one after another: in parallel their threads' stacks outgrow the checker's memory limit.
set_option Elab.async false

namespace Sys2Proof.Machine

/-! ## What the end of a part write stores (R135, R137, R138) -/

/-! ### What the owners do with it stores nothing -/

@[simp] theorem beginRunning_mem (s : State) : (beginRunning s).mem = s.mem := by simp [beginRunning]

@[simp] theorem reportCurrent_mem (s : State) : (reportCurrent s).mem = s.mem := by
  unfold reportCurrent
  split
  · exact beginRunning_mem s
  · rfl

@[simp] theorem acceptLength_mem (n : Nat) (s : State) : (acceptLength n s).mem = s.mem := by
  unfold acceptLength
  split <;> simp

@[simp] theorem latchSucceeds_mem (n : Nat) (s : State) : (latchSucceeds n s).mem = s.mem := by
  simp [latchSucceeds_eq, warmingUp, takeForce]

@[simp] theorem settleLength_mem (s : State) : (settleLength s).mem = s.mem := by
  unfold settleLength
  split
  · split
    · exact latchSucceeds_mem _ s
    · rfl
  · rfl

theorem DrainLeft.mem {s t : State} (h : DrainLeft s t) : t.mem = s.mem := by
  cases h with
  | waits hstages => exact hstages.mem
  | finished n hstages => exact (completeTaken_mem _ _ _).trans hstages.mem

@[simp] theorem askDrain_mem (s : State) : (askDrain s).mem = s.mem := by
  by_cases hidle : s.keys.reset = .idle
  · rw [askDrain_of_idle hidle]
  · exact (askDrain_left hidle).mem

@[simp] theorem completeRecord_mem (s : State) : (completeRecord s).mem = s.mem := by
  simp [completeRecord, advanceProducer]

@[simp] theorem cellWritten_mem (c : Cell) (s : State) : (cellWritten c s).mem = s.mem := by
  cases c with
  | command =>
    simp only [cellWritten, endCompleting]
    split <;> simp
  | producer =>
    simp only [cellWritten, producerWritten]
    split <;> simp
  | consumer =>
    simp only [cellWritten, consumerWritten]
    split <;> simp
  | statusRecord | pending | shownBase | scanState => rfl

/-! ### Memory after a write, and after each row -/

/-- Whatever the target, memory has received both lanes of its word and nothing else. -/
theorem endWrite_mem (w : WriteTarget) (d : Word) (r : Bool) (s : State) :
    (endWrite w d r s).mem = putLanes s.mem (s.pass.windowBase + targetOffset w) bothLanes d := by
  cases w with
  | cell c =>
    cases r with
    | true => rfl
    | false => exact cellWritten_mem c _
  | status k =>
    unfold endWrite
    dsimp only
    split <;> rfl
  | record p k =>
    unfold endWrite
    dsimp only
    split
    · rfl
    · exact completeRecord_mem _

theorem storesOnly_of_mem_eq {s t : State} (h : t.mem = s.mem) (a : Nat) (l : Lanes) : StoresOnly s t a l :=
  fun x _ _ => congrArg (byteAt · x) h

theorem storesOnly_of_putLanes {s t : State} (hm : MemoryCanonical s) {a : Nat} {l : Lanes} {d : Word}
    (h : t.mem = putLanes s.mem a l d) : StoresOnly s t a l := by
  intro x hlow hhigh
  rw [h, byteAt_putLanes hm, if_neg hhigh, if_neg hlow]

/-- While a part cycle is under way no host cycle is granted (R151). -/
theorem takeRow_of_port {s : State} (hp : s.arb.port ≠ .free) (kind : Nat → Lanes → Word → State → Bool) :
    takeRow kind s = s :=
  takeRow_of_not_granted fun _ _ _ ⟨_, hfree, _⟩ => absurd hfree hp

/-- With a part write under way, a row of the write stage ends that write, settles a waiting length, asks the drain, or
does not come about. -/
theorem partWriteRow_cases {c : Instr} {s t : State} {w : WriteTarget} {d : Word} {r : Bool}
    (hp : s.arb.port = .write w d r)
    (hc : c ∈ [Instr.writeStageWriteDone, .recordComplete, .queueData, .completingEnds, .flushQueueDone,
      .lengthAccepted, .drainRetry])
    (h : exec c s = .next t) : t = s ∨ t = endWrite w d r s ∨ t = settleLength s ∨ t = askDrain s := by
  cases c
  case writeStageWriteDone =>
    simp only [exec, execWriteStageWriteDone, hp] at h
    cases h
    exact .inr (.inl rfl)
  case recordComplete | completingEnds =>
    simp only [exec, execRecordComplete, execCompletingEnds, hp] at h
    split at h <;> cases h
    next heq => cases heq; exact .inr (.inl rfl)
    · exact .inl rfl
  case queueData | flushQueueDone =>
    simp only [exec, execQueueData, execFlushQueueDone, hp] at h
    split at h
    next heq =>
      cases heq
      split at h <;> cases h
      · exact .inr (.inl rfl)
      · exact .inl rfl
    · cases h; exact .inl rfl
  case lengthAccepted =>
    simp only [exec, execLengthAccepted, hp] at h
    split at h
    · cases h; exact .inl rfl
    · split at h
      next heq =>
        cases heq
        split at h <;> cases h
        · exact .inr (.inl rfl)
        · exact .inl rfl
      · cases h; exact .inr (.inr (.inl rfl))
  case drainRetry =>
    have hnone := takeRow_of_port (s := s) (by simp [hp]) validConsumerWrite
    simp only [exec, execDrainRetry, hp, hnone] at h
    split at h
    · cases h; exact .inl rfl
    · split at h
      · cases h; exact .inr (.inr (.inr rfl))
      · split at h <;> cases h
        next heq => cases heq; exact .inr (.inl rfl)
        · exact .inl rfl
  all_goals simp at hc

/-- Settles O14: only the end of the write itself stores, and it stores the word of its target. -/
theorem partWriteRowsStoreOnlyTheirWord : Obligations.PartWriteRowsStoreOnlyTheirWord := by
  intro c s t w d r hm hp hc h
  obtain rfl | rfl | rfl | rfl := partWriteRow_cases hp hc h
  · exact storesOnly_of_mem_eq rfl _ _
  · exact storesOnly_of_putLanes hm (endWrite_mem w d r s)
  · exact storesOnly_of_mem_eq (settleLength_mem s) _ _
  · exact storesOnly_of_mem_eq (askDrain_mem s) _ _

/-! ## The cell update list (R135, R136) -/

/-- The cells that can have an entry (R135). -/
def listableCells : List Cell := [.statusRecord, .command, .pending, .producer, .consumer, .shownBase, .scanState]

theorem mem_listableCells (c : Cell) : c ∈ listableCells := by cases c <;> decide

/-- With one entry a cell at most, the list holds no more entries than there are cells. -/
theorem length_updates_le {us : List Entry} (h : (us.map Entry.cell).Nodup) : us.length ≤ 7 := by
  have hle := (List.subperm_of_subset h fun c _ => mem_listableCells c).length_le
  rwa [List.length_map] at hle

theorem nodup_cells_placed {us : List Entry} (h : (us.map Entry.cell).Nodup) (c : Cell) (v : EntryValue) :
    ((placed c v us).map Entry.cell).Nodup := by
  rw [map_cell_placed]
  split
  · exact h
  next hc => exact h.append (List.nodup_singleton c) (List.disjoint_singleton.2 hc)

/-- Settles O40: each part is a fact about `placed`, the list an update leaves. -/
theorem placedUpdateKeepsOrder : Obligations.PlacedUpdateKeepsOrder := by
  intro s c v hnodup
  rw [placeUpdate_updates]
  have hplaced := nodup_cells_placed hnodup c v
  refine ⟨hplaced, map_cell_placed c v _, ?_, fun e hne => mem_placed_of_ne hne e.value v _, length_updates_le hplaced⟩
  rintro ⟨_, w⟩ he rfl
  exact eq_of_mem_placed he

/-! ## Host writes to published cells (R140) -/

/-- PUBLISHED_CELL_WRITE stores the part's own value in the written lanes. -/
theorem exec_publishedCellWrite {s : State} {a off : Nat} {l : Lanes} {d : Word}
    (h : WriteGranted s a l d (.published off)) :
    exec .publishedCellWrite s = .next (written s a l (publishedWord s off)) := by
  have hkind : isPublishedWrite a l d s = true := by rw [isPublishedWrite, h.2]
  simp only [exec, execPublishedCellWrite, takeRow_of_writeGranted h hkind, takeWrite, destination_grantHost, h.2]
  rfl

/-- The table of R140: the part's current value at each published offset. -/
theorem publishedWord_of_table {s : State} {off : Nat} {v : Word}
    (h : (off, v) ∈ [(0x008, s.cmd.record.code), (0x00A, s.cmd.record.result), (0x00C, s.cmd.record.sequence),
      (0x00E, s.cmd.record.detail), (0x018, toWord s.queue.prod), (0x01C, shownBaseWord s),
      (0x01E, scanStateWord s)]) : publishedWord s off = v := by
  simp only [List.mem_cons, Prod.mk.injEq, List.not_mem_nil, or_false] at h
  obtain ⟨rfl, rfl⟩ | ⟨rfl, rfl⟩ | ⟨rfl, rfl⟩ | ⟨rfl, rfl⟩ | ⟨rfl, rfl⟩ | ⟨rfl, rfl⟩ | ⟨rfl, rfl⟩ := h
  all_goals rfl

/-- Settles O23: the scan state's byte is its code of R2, and the value stored is the table's. -/
theorem publishedCellWriteCarriesPartValue : Obligations.PublishedCellWriteCarriesPartValue := by
  intro s a l d off v n hstate hvalue hw
  have hcode : n = scanStateCode s.scan.state := by
    simp only [List.mem_cons, Prod.mk.injEq, List.not_mem_nil, or_false] at hstate
    obtain ⟨hs, rfl⟩ | ⟨hs, rfl⟩ | ⟨hs, rfl⟩ := hstate
    all_goals rw [hs]; rfl
  subst hcode
  rw [exec_publishedCellWrite hw, publishedWord_of_table hvalue]

/-! ## The end of a write, by its target (R138, R139) -/

theorem exec_writeStageWriteDone {s : State} {w : WriteTarget} {d : Word} {r : Bool} (hp : s.arb.port = .write w d r) :
    exec .writeStageWriteDone s = .next (endWrite w d r s) := by
  simp only [exec, execWriteStageWriteDone, hp]

/-- A value replaced since the grant keeps its entry. -/
theorem endWrite_replaced (c : Cell) (d : Word) (s : State) :
    endWrite (.cell c) d true s = cellStored s (cellOffset c) d := rfl

/-- The entry leaves the list, and the cell's owner is told. -/
theorem endWrite_cell (c : Cell) (d : Word) (s : State) :
    endWrite (.cell c) d false s = cellWritten c ((cellStored s (cellOffset c) d).withWs
      { s.ws with updates := s.ws.updates.filter (fun e => e.cell ≠ c) }) := rfl

theorem endWrite_status {k : Nat} (hk : k < 3) (d : Word) (r : Bool) (s : State) :
    endWrite (.status k) d r s = (cellStored s (0x008 + 2 * k) d).withWs
      { s.ws with updates := countStatusWord k s.ws.updates } := if_pos hk

theorem endWrite_lastStatus (d : Word) (r : Bool) (s : State) :
    endWrite (.status 3) d r s = (cellStored s 0x00E d).withWs
      { s.ws with updates := dropEntry .statusRecord s.ws.updates } := rfl

theorem endWrite_record {k : Nat} (hk : k < 3) (p : Nat) (d : Word) (r : Bool) (s : State) :
    endWrite (.record p k) d r s = (cellStored s (0x200 + 8 * p + 2 * k) d).withWs
      { s.ws with recordProgress := k + 1 } := if_pos hk

/-- Cells with no owner waiting for their write; FLUSH_QUEUE is the consumer cell's (R89, R138). -/
theorem cellWritten_of_unawaited {c : Cell} {s : State}
    (h : c = .pending ∨ c = .shownBase ∨ c = .scanState ∨ (c = .consumer ∧ flushRuns s = false)) :
    cellWritten c s = s := by
  obtain rfl | rfl | rfl | ⟨rfl, hflush⟩ := h
  · rfl
  · rfl
  · rfl
  · exact if_neg (by simp [hflush])

theorem dropEntry_cons {c : Cell} {us : List Entry} (h : ∀ e ∈ us, e.cell ≠ c) (v : EntryValue) :
    dropEntry c (⟨c, v⟩ :: us) = us := by
  rw [dropEntry, List.filter_cons_of_neg (by simp)]
  exact List.filter_eq_self.2 fun e he => decide_eq_true (h e he)

theorem countStatusWord_cons {us : List Entry} (h : ∀ e ∈ us, e.cell ≠ .statusRecord) (k j : Nat) (q : StatusRecord) :
    countStatusWord k (⟨.statusRecord, .status q j⟩ :: us) = ⟨.statusRecord, .status q (k + 1)⟩ :: us := by
  refine congrArg (List.cons _) ((List.map_congr_left fun e he => ?_).trans (List.map_id us))
  split
  · exact absurd rfl (h _ he)
  · rfl

/-- Settles O58: one equation for each target of the write, and the head's entry is the status record's only one. -/
theorem writeDoneMovesLists : Obligations.WriteDoneMovesLists := by
  refine fun s d => ⟨fun c hp => ?_, fun c r hp hr hc => ?_, fun r q us hp hus hnone => ?_,
    fun k r q us hk hp hus hnone => ?_, fun p k r hk hp => ?_⟩
  · rw [exec_writeStageWriteDone hp, endWrite_replaced]
  · subst hr
    rw [exec_writeStageWriteDone hp, endWrite_cell, cellWritten_of_unawaited]
    exact hc.imp_right <| .imp_right <| .imp_right <| .imp_right decide_eq_false
  · rw [exec_writeStageWriteDone hp, endWrite_lastStatus, hus, dropEntry_cons hnone]
  · rw [exec_writeStageWriteDone hp, endWrite_status hk, hus, countStatusWord_cons hnone]
  · rw [exec_writeStageWriteDone hp, endWrite_record hk]

end Sys2Proof.Machine
end


/-! PROOFS of the pass-through unit's and the memory port's statements (O3, O5, O13, O15 to O22). First what each operation
leaves outside the part, of memory and of the queue of commands: a host write stores one word, every other operation but
the end of a part write leaves both. Then the window's owners, the arbiter's decision and what it grants, and RESET. -/

section
-- Proofs are elaborated one after another: in parallel their threads' stacks outgrow the checker's memory limit.
set_option Elab.async false

namespace Sys2Proof.Machine

/-! ## Memory's canonical form -/

/-- Settles O5: memory changes by stores alone, and each change of the part keeps the form. -/
theorem memoryStaysCanonical : Obligations.MemoryStaysCanonical := fun _ _ h hst =>
  step_keeps_of_changes (fun _ _ => memoryCanonical_aside) (fun _ _ => memoryCanonical_cacheStep) h hst

/-! ## What an operation leaves outside the part -/

/-- What a state holds outside the part's blocks: the host's RAM, and the commands that wait. -/
def outside (s : State) : Memory × List Instr := (s.mem, s.pending)

theorem outside_eq_iff (s t : State) : outside t = outside s ↔ t.mem = s.mem ∧ t.pending = s.pending :=
  Prod.ext_iff

theorem mem_of_outside {s t : State} (h : outside t = outside s) : t.mem = s.mem := congrArg Prod.fst h

theorem pending_of_outside {s t : State} (h : outside t = outside s) : t.pending = s.pending := congrArg Prod.snd h

/-! ### Blocks, updates, completions, pins -/

section
variable (s : State)

@[simp] theorem outside_withPass (x : PassThrough) : outside (s.withPass x) = outside s := rfl
@[simp] theorem outside_withArb (x : Arbiter) : outside (s.withArb x) = outside s := rfl
@[simp] theorem outside_withWs (x : WriteStage) : outside (s.withWs x) = outside s := rfl
@[simp] theorem outside_withCmd (x : CommandUnit) : outside (s.withCmd x) = outside s := rfl
@[simp] theorem outside_withLatch (x : TableLatch) : outside (s.withLatch x) = outside s := rfl
@[simp] theorem outside_withScan (x : ScanEngine) : outside (s.withScan x) = outside s := rfl
@[simp] theorem outside_withCache (x : FrameCache) : outside (s.withCache x) = outside s := rfl
@[simp] theorem outside_withSwitch (x : FrameSwitch) : outside (s.withSwitch x) = outside s := rfl
@[simp] theorem outside_withKeys (x : KeyScanner) : outside (s.withKeys x) = outside s := rfl
@[simp] theorem outside_withQueue (x : EventQueue) : outside (s.withQueue x) = outside s := rfl
@[simp] theorem outside_withEvents (x : EventUnit) : outside (s.withEvents x) = outside s := rfl
@[simp] theorem outside_grantHost : outside (grantHost s) = outside s := rfl
@[simp] theorem outside_grantPart (p : PartClass) : outside (grantPart p s) = outside s := rfl
@[simp] theorem outside_takeRead (a : Nat) (l : Lanes) : outside (takeRead a l s) = outside s := rfl
@[simp] theorem outside_endLit : outside (endLit s) = outside s := rfl
@[simp] theorem outside_beginLatch (p : Purpose) : outside (beginLatch p s) = outside s := rfl
@[simp] theorem outside_setPins (p : Pin) (is : List PatternIndex) : outside (setPins p is s) = outside s := rfl
@[simp] theorem outside_removePins (p : Pin) : outside (removePins p s) = outside s := rfl
@[simp] theorem outside_abortPreparation : outside (abortPreparation s) = outside s := rfl
@[simp] theorem outside_resetPanel : outside (resetPanel s) = outside s := rfl
@[simp] theorem outside_replaceWaiting (c : Cell) (v : EntryValue) : outside (replaceWaiting c v s) = outside s := by
  simp [outside]
@[simp] theorem outside_placeUpdate (c : Cell) (v : EntryValue) : outside (placeUpdate c v s) = outside s := by
  simp [outside]
@[simp] theorem outside_publish (c : Cell) : outside (publish c s) = outside s := by simp [outside]
@[simp] theorem outside_raise (k : EventKind) : outside (raise k s) = outside s := by simp [outside]
@[simp] theorem outside_complete (code : Word) (r : Result) (d : Word) :
    outside (complete code r d s) = outside s := by simp [outside]
@[simp] theorem outside_completeTaken (r : Result) (d : Word) : outside (completeTaken r d s) = outside s := by
  simp [outside]
@[simp] theorem outside_startSlot (i : Nat) : outside (startSlot i s) = outside s := by simp [outside]
@[simp] theorem outside_reportNext : outside (reportNext s) = outside s := by simp [outside]
@[simp] theorem outside_beginPreparation (t : List SlotRecord) (b : PatternIndex) :
    outside (beginPreparation t b s) = outside s := by simp [outside]
@[simp] theorem outside_takeBoundary : outside (takeBoundary s) = outside s := by simp [outside]
@[simp] theorem outside_initialPublication : outside (initialPublication s) = outside s := by
  simp [initialPublication]
@[simp] theorem outside_republish : outside (republish s) = outside s := by simp [republish]

end

/-! ### Keys and the scan engine -/

theorem KeysOnly.outside {s t : State} (h : KeysOnly s t) : outside t = outside s :=
  (outside_eq_iff s t).2 ⟨h.mem, h.pending⟩

theorem DrainAsked.outside {s t : State} (h : DrainAsked s t) : outside t = outside s := by
  cases h with
  | waits hk => exact hk.outside
  | finished n hk => exact (outside_completeTaken _ _ n).trans hk.outside

@[simp] theorem outside_askDrain (s : State) : outside (askDrain s) = outside s := (askDrain_asked s).outside

@[simp] theorem outside_endOnTime (levels : BitVec 8) (s : State) : outside (endOnTime levels s) = outside s :=
  (KeysOnly.sampleSlot levels _).outside

@[simp] theorem outside_beginRunning (s : State) : outside (beginRunning s) = outside s := by simp [beginRunning]

@[simp] theorem outside_reportCurrent (s : State) : outside (reportCurrent s) = outside s := by
  unfold reportCurrent
  split
  · exact outside_beginRunning s
  · rfl

/-! ### Reads of the table latch and of fills -/

@[simp] theorem outside_latchFails (r : Result) (off : Nat) (s : State) : outside (latchFails r off s) = outside s := by
  unfold latchFails
  dsimp only
  split <;> simp

@[simp] theorem outside_watchWrite (off : Nat) (s : State) : outside (watchWrite off s) = outside s := by
  unfold watchWrite
  split
  · split <;> simp
  · rfl

@[simp] theorem outside_acceptLength (n : Nat) (s : State) : outside (acceptLength n s) = outside s := by
  unfold acceptLength
  split <;> simp

@[simp] theorem outside_latchSucceeds (n : Nat) (s : State) : outside (latchSucceeds n s) = outside s := by
  simp [latchSucceeds_eq, warmingUp, takeForce]

@[simp] theorem outside_settleLength (s : State) : outside (settleLength s) = outside s := by
  unfold settleLength
  split
  · split
    · exact outside_latchSucceeds _ s
    · rfl
  · rfl

@[simp] theorem outside_holdLength (s : State) : outside (holdLength s) = outside s := by
  unfold holdLength
  dsimp only
  split <;> simp

@[simp] theorem outside_checkLatched (s : State) : outside (checkLatched s) = outside s := by
  unfold checkLatched
  split
  · split
    · simp
    · split <;> simp
  · split
    · simp
    · simp [handOverTable]

@[simp] theorem outside_endLatchRead (off : Nat) (s : State) : outside (endLatchRead off s) = outside s := by
  unfold endLatchRead
  dsimp only
  split
  · split <;> simp
  · rfl

@[simp] theorem outside_readWord0 (n : Nat) (idx : PatternIndex) (s : State) :
    outside (readWord0 n idx s) = outside s := by
  obtain heq | ⟨x, -, -, -, heq⟩ := readWord0_cases n idx s <;> rw [heq] <;> rfl

@[simp] theorem outside_placeWord1 (n : Nat) (idx : PatternIndex) (s : State) :
    outside (placeWord1 n idx s) = outside s := by
  obtain heq | ⟨x, -, -, -, heq⟩ := placeWord1_cases n idx s <;> rw [heq] <;> rfl

@[simp] theorem outside_readWord1 (n : Nat) (idx : PatternIndex) (s : State) :
    outside (readWord1 n idx s) = outside s := by
  unfold readWord1
  dsimp only
  split <;> split <;> simp

/-! ### Commands -/

@[simp] theorem outside_runStart (s : State) : outside (runStart s) = outside s := by
  unfold runStart
  split <;> simp

@[simp] theorem outside_runStop (s : State) : outside (runStop s) = outside s := by
  unfold runStop
  split <;> simp [stopPanel]

@[simp] theorem outside_runFlip (s : State) : outside (runFlip s) = outside s := by
  unfold runFlip
  split
  · split <;> simp
  all_goals simp

@[simp] theorem outside_runReload (s : State) : outside (runReload s) = outside s := by
  unfold runReload
  split <;> simp

@[simp] theorem outside_runCommand (code : Word) (s : State) : outside (runCommand code s) = outside s := by
  unfold runCommand
  split
  · exact outside_runStart s
  split
  · exact outside_runStop s
  split
  · exact outside_runFlip s
  split
  · exact outside_runReload s
  split
  · simp [runFlush]
  split
  · exact (beginKeyReset_asked s).outside
  split
  · simp [runPanelReset]
  split <;> simp

@[simp] theorem outside_abortStart (s : State) : outside (abortStart s) = outside s := by
  unfold abortStart
  dsimp only
  split <;> simp

@[simp] theorem outside_endRunning (s : State) : outside (endRunning s) = outside s := by
  unfold endRunning
  split
  · exact outside_abortStart s
  split
  · split <;> simp
  split
  · exact (KeysOnly.abortDrain s).outside
  · rfl

@[simp] theorem outside_abortRunning (s : State) : outside (abortRunning s) = outside s := by simp [abortRunning]

/-! ### The write stage's ends -/

@[simp] theorem outside_cellWritten (c : Cell) (s : State) : outside (cellWritten c s) = outside s := by
  cases c with
  | command =>
    simp only [cellWritten, endCompleting]
    split <;> simp
  | producer =>
    simp only [cellWritten, producerWritten]
    split <;> simp
  | consumer =>
    simp only [cellWritten, consumerWritten]
    split <;> simp
  | statusRecord | pending | shownBase | scanState => rfl

@[simp] theorem outside_completeRecord (s : State) : outside (completeRecord s) = outside s := by
  simp [completeRecord, advanceProducer]

/-- Beyond the word it stores, the end of a write leaves what is outside the part as it was (R138). -/
theorem outside_endWrite (w : WriteTarget) (d : Word) (r : Bool) (s : State) :
    outside (endWrite w d r s) = outside (storeTarget w d s) := by
  cases w with
  | cell c =>
    cases r with
    | true => rfl
    | false => exact outside_cellWritten c _
  | status k =>
    unfold endWrite
    dsimp only
    split <;> rfl
  | record p k =>
    unfold endWrite
    dsimp only
    split
    · rfl
    · exact outside_completeRecord _

/-! ### Host writes -/

/-- A store after a change inside the part is the store alone, as memory and the queue see it. -/
theorem outside_storeHost_congr {s t : State} (h : outside t = outside s) (a : Nat) (l : Lanes) (d : Word) :
    outside (storeHost a l d t) = outside (storeHost a l d s) := by
  obtain ⟨hmem, hpending⟩ := (outside_eq_iff s t).1 h
  simp [outside, hmem, hpending]

/-- A refused write of the command cell stores the cell's value, whatever it raises (R114, R115). -/
theorem outside_refuseWrite (a : Nat) (l : Lanes) (collides : Bool) (s : State) :
    outside (refuseWrite a l collides s) = outside (storeHost a l s.cmd.cellValue s) := by
  unfold refuseWrite
  dsimp only
  split
  · exact outside_raise _ _
  · rfl

theorem outside_writeCommandCell (a : Nat) (l : Lanes) (d : Word) (s : State) :
    ∃ v, outside (writeCommandCell a l d s) = outside (storeHost a l v s) := by
  unfold writeCommandCell
  split
  · split
    · exact ⟨d, rfl⟩
    · exact ⟨d, outside_runCommand _ _⟩
  · split
    · exact ⟨d, outside_abortRunning _⟩
    · exact ⟨_, outside_refuseWrite a l _ s⟩
  · exact ⟨_, outside_refuseWrite a l _ s⟩

theorem outside_writeConsumer (a : Nat) (l : Lanes) (d : Word) (s : State) :
    ∃ v, outside (writeConsumer a l d s) = outside (storeHost a l v s) := by
  unfold writeConsumer
  dsimp only
  split
  · exact ⟨d, by rw [outside_askDrain, outside_replaceWaiting]; rfl⟩
  · exact ⟨_, outside_raise _ _⟩

theorem outside_writeEnable (a : Nat) (l : Lanes) (d : Word) (s : State) :
    outside (writeEnable a l d s) = outside (storeHost a l d s) := by
  refine outside_storeHost_congr ?_ a l d
  split <;> rfl

theorem outside_writeGlobalLevel (a : Nat) (l : Lanes) (d : Word) (s : State) :
    outside (writeGlobalLevel a l d s) = outside (storeHost a l d s) := by
  unfold writeGlobalLevel
  cases levelOfWrite l d <;> dsimp only <;> split
  · exact outside_watchWrite _ _
  · rfl
  · exact outside_watchWrite _ _
  · rfl

/-- A host write, whatever its owner does with it, stores some word in the lanes it carries, and nothing else outside
the part changes (R147). -/
theorem outside_takeWrite (a : Nat) (l : Lanes) (d : Word) (s : State) :
    ∃ v, outside (takeWrite a l d s) = outside (storeHost a l v s) := by
  unfold takeWrite
  cases destination s a l with
  | plain | argument | pattern => exact ⟨d, rfl⟩
  | published off => exact ⟨publishedWord s off, rfl⟩
  | command => exact outside_writeCommandCell a l d s
  | pendingCell => exact ⟨_, outside_storeHost_congr (by simp) a l _⟩
  | enableCell => exact ⟨d, outside_writeEnable a l d s⟩
  | consumerCell => exact outside_writeConsumer a l d s
  | globalLevel => exact ⟨d, outside_writeGlobalLevel a l d s⟩
  | watched off => exact ⟨d, outside_watchWrite off _⟩

/-! ## The queue of commands -/

theorem pending_takeCycle (c : HostCycle) (s : State) : (takeCycle c s).pending = s.pending := by
  cases c with
  | read a l => rfl
  | write a l d =>
    obtain ⟨v, hv⟩ := outside_takeWrite a l d s
    exact pending_of_outside (s := storeHost a l v s) hv

theorem pending_makeUnseen (c : HostCycle) (s : State) : (makeUnseen c s).pending = s.pending := by cases c <;> rfl

theorem pending_presentCycle (c : HostCycle) (s : State) : (presentCycle c s).pending = s.pending := by
  unfold presentCycle
  split
  · exact pending_makeUnseen c s
  · split <;> rfl

theorem pending_endPartCycle (s : State) : (endPartCycle s).pending = s.pending := by
  unfold endPartCycle
  split
  · dsimp only
    split <;> rfl
  all_goals rfl

theorem pending_makeWaiting (s : State) : (makeWaiting s).pending = s.pending := by
  unfold makeWaiting
  split
  · exact pending_makeUnseen _ s
  · rfl

/-- No happening adds a command to the queue or takes one from it. -/
theorem Happening.pending {s t : State} (h : Happening s t) : t.pending = s.pending := by
  cases h with
  | nothing | litEnded | partGranted | readDiscarded => rfl
  | resetAsserted => exact (pending_makeWaiting _).trans (pending_endPartCycle s)
  | resetReleased => exact pending_of_outside (outside_initialPublication _)
  | presented c => exact pending_presentCycle c s
  | hostCycle c => exact pending_takeCycle c (grantHost s)
  | latchRead off => exact pending_of_outside (outside_endLatchRead off s)
  | writeDone w d r => exact pending_of_outside (s := storeTarget w d s) (outside_endWrite w d r s)
  | lengthSettled => exact pending_of_outside (outside_settleLength s)
  | word0Read n idx => exact pending_of_outside (outside_readWord0 n idx s)
  | word1Read n idx => exact pending_of_outside (outside_readWord1 n idx s)
  | currentReported => exact pending_of_outside (outside_reportCurrent s)
  | nextReported => exact reportNext_pending s
  | slotStarted i => exact startSlot_pending i s
  | onTimeEnded sense => exact pending_of_outside (outside_endOnTime sense s)
  | boundary => exact takeBoundary_pending s
  | drainAsked => exact pending_of_outside (outside_askDrain s)

/-- Every row answers a next state when its operands are well formed. -/
theorem exec_answers {c : Instr} (h : c.wellFormed = true) (s : State) : ∃ t, exec c s = .next t := by
  cases c
  case hostCyclePresented c => exact ⟨presentCycle c s, if_pos (of_decide_eq_true h)⟩
  case arbiterDecision | hostWrite | publishedCellWrite | start | stop | flip | reload | flushQueue | keyReset
    | panelReset | abort | unknownCommand | argumentWrite | pendingCellWrite | enableCellWrite | consumerCellWrite
    | globalLevelWrite | patternWrite | tableWrite | commandCellWrite =>
    exact ⟨_, rfl⟩
  case resetAsserted | resetReleased | latchReadComplete | fillWord0Read | fillWord1Read | fillReadDiscarded | slotStart
    | litTicksEnd | onTimeEnd | frameBoundary | switchTimeout | repeatDue | writeStageWriteDone | recordComplete
    | completingEnds =>
    simp only [exec, execResetAsserted, execResetReleased, execLatchReadComplete, execFillWord0Read, execFillWord1Read,
      execFillReadDiscarded, execSlotStart, execLitTicksEnd, execOnTimeEnd, execFrameBoundary, execSwitchTimeout,
      execRepeat, execWriteStageWriteDone, execRecordComplete, execCompletingEnds]
    split <;> exact ⟨_, rfl⟩
  case runningBegins | nextFrameReady | queueData | flushQueueDone =>
    simp only [exec, execRunningBegins, execNextFrameReady, execQueueData, execFlushQueueDone]
    split
    · split <;> exact ⟨_, rfl⟩
    · exact ⟨_, rfl⟩
  case lengthAccepted =>
    simp only [exec, execLengthAccepted]
    split
    · exact ⟨_, rfl⟩
    · split
      · split <;> exact ⟨_, rfl⟩
      · exact ⟨_, rfl⟩
  case drainRetry =>
    simp only [exec, execDrainRetry]
    split
    · exact ⟨_, rfl⟩
    · split
      · exact ⟨_, rfl⟩
      · split <;> exact ⟨_, rfl⟩

/-- The one ill-formed kind of command is a cycle at an address outside the host's space. -/
theorem wellFormed_eq_false {c : Instr} (h : c.wellFormed = false) :
    ∃ x : HostCycle, c = .hostCyclePresented x ∧ ¬ x.addr < Config.hostSpace := by
  cases c
  case hostCyclePresented x => exact ⟨x, rfl, of_decide_eq_false h⟩
  all_goals cases h

/-- Settles O3: every row answers, its happening keeps the queue, and an ill-formed cycle is not presented. -/
theorem wellFormedCommandsComplete : Obligations.WellFormedCommandsComplete := by
  refine fun c s => ⟨fun h => ?_, fun h => ?_⟩
  · obtain ⟨t, ht⟩ := exec_answers h s
    exact ⟨t, ht, (Happening.of_exec ht).pending⟩
  · obtain ⟨x, rfl, hx⟩ := wellFormed_eq_false h
    exact if_neg hx

/-! ## What the rows store (R145, R147, R153) -/

theorem takeRow_cases {s : State} {a : Nat} {l : Lanes} {d : Word} (hg : HostGranted s (.write a l d))
    (kind : Nat → Lanes → Word → State → Bool) :
    takeRow kind s = s ∨ takeRow kind s = takeWrite a l d (grantHost s) := by
  unfold takeRow
  rw [hostGrant_of_granted hg]
  dsimp only
  split
  · exact .inr rfl
  · exact .inl rfl

/-- With a host write granted, a row that takes host writes takes that one or does not come about. -/
theorem hostWriteRow_cases {c : Instr} {s t : State} {a : Nat} {l : Lanes} {d : Word}
    (hg : HostGranted s (.write a l d))
    (hc : c ∈ [Instr.arbiterDecision, .hostWrite, .publishedCellWrite, .start, .stop, .flip, .reload, .flushQueue,
      .keyReset, .panelReset, .abort, .unknownCommand, .argumentWrite, .pendingCellWrite, .enableCellWrite,
      .consumerCellWrite, .globalLevelWrite, .patternWrite, .tableWrite, .commandCellWrite])
    (h : exec c s = .next t) : t = s ∨ t = takeWrite a l d (grantHost s) := by
  cases c
  case arbiterDecision => cases h; exact .inr (decidePort_of_granted hg)
  case hostWrite | publishedCellWrite | start | stop | flip | reload | flushQueue | keyReset | panelReset | abort
    | unknownCommand | argumentWrite | pendingCellWrite | enableCellWrite | consumerCellWrite | globalLevelWrite
    | patternWrite | tableWrite | commandCellWrite =>
    cases h; exact takeRow_cases hg _
  all_goals simp at hc

/-- Settles O13: the one write taken stores one word, whatever its owner makes of the data. -/
theorem hostWriteRowsStoreOnlyTheirWord : Obligations.HostWriteRowsStoreOnlyTheirWord := by
  intro c s t a l d hm hg hc h
  obtain rfl | rfl := hostWriteRow_cases hg hc h
  · exact storesOnly_of_mem_eq rfl _ _
  · obtain ⟨v, hv⟩ := outside_takeWrite a l d (grantHost s)
    exact storesOnly_of_putLanes hm (mem_of_outside (s := storeHost a l v (grantHost s)) hv)

/-- Presenting a cycle stores nothing but a write made while RESET is held (R145, R148). -/
theorem mem_presentCycle {c : HostCycle} {s : State}
    (h : (∃ a l, c = .read a l) ∨ s.pass.resetHeld = false) : (presentCycle c s).mem = s.mem := by
  unfold presentCycle
  split
  next hheld =>
    obtain ⟨a, l, rfl⟩ := h.resolve_right (by simp [hheld])
    rfl
  · split <;> rfl

/-- The rows of the table latch, of the fills and of the scan engine, which take or end no write. -/
theorem outside_of_quietRow {c : Instr} {s t : State}
    (hc : c ∈ [Instr.latchReadComplete, .fillWord0Read, .fillWord1Read, .fillReadDiscarded, .runningBegins,
        .nextFrameReady, .slotStart, .litTicksEnd, .frameBoundary, .switchTimeout, .repeatDue]
      ∨ (∃ k, c = .resetReleased k) ∨ (∃ k, c = .onTimeEnd k))
    (h : exec c s = .next t) : outside t = outside s := by
  cases c
  case latchReadComplete | fillWord0Read | fillWord1Read | fillReadDiscarded | slotStart | litTicksEnd | frameBoundary
    | switchTimeout | repeatDue | onTimeEnd | resetReleased =>
    simp only [exec, execLatchReadComplete, execFillWord0Read, execFillWord1Read, execFillReadDiscarded, execSlotStart,
      execLitTicksEnd, execFrameBoundary, execSwitchTimeout, execRepeat, execOnTimeEnd, execResetReleased] at h
    split at h <;> cases h <;> simp
  case runningBegins | nextFrameReady =>
    simp only [exec, execRunningBegins, execNextFrameReady] at h
    split at h
    · split at h <;> cases h <;> simp
    · cases h; simp
  all_goals simp at hc

/-- Settles O15: the rows leave what is outside the part as it was, and a presented cycle only waits or reads. -/
theorem otherRowsStoreNothing : Obligations.OtherRowsStoreNothing := by
  intro c s t hc h x
  have hpresented : ∀ {y : HostCycle}, c = .hostCyclePresented y →
      ((∃ a l, y = .read a l) ∨ s.pass.resetHeld = false) → t.mem = s.mem := by
    rintro y rfl hy
    rw [exec, execHostCyclePresented] at h
    split at h <;> cases h
    exact mem_presentCycle hy
  refine congrArg (byteAt · x) ?_
  obtain hc | hc | hc | ⟨a, l, hc⟩ | ⟨⟨a, l, d, hc⟩, hheld⟩ := hc
  · exact mem_of_outside (outside_of_quietRow (.inl hc) h)
  · exact mem_of_outside (outside_of_quietRow (.inr (.inl hc)) h)
  · exact mem_of_outside (outside_of_quietRow (.inr (.inr hc)) h)
  · exact hpresented hc (.inl ⟨a, l, rfl⟩)
  · exact hpresented hc (.inr hheld)

/-! ## The window and its owners (R144, R146) -/

/-- Beyond the cells that have an owner of their own, the table of R146 goes by regions. -/
theorem destinationOfOffset_of_region (reading : Option Purpose) {off : Nat}
    (h : off ∉ [0x000, 0x002, 0x008, 0x00A, 0x00C, 0x00E, 0x010, 0x012, 0x018, 0x01A, 0x01C, 0x01E, 0x024]) :
    destinationOfOffset reading off =
      if 0x020 ≤ off ∧ off ≤ 0x036 then if reading = some .start then .watched off else .plain
      else if 0x100 ≤ off ∧ off ≤ 0x1BF then if reading.isSome then .watched off else .plain
      else if 0x400 ≤ off ∧ off ≤ 0xBFF then .pattern off else .plain := by
  simp only [List.mem_cons, List.not_mem_nil, or_false, not_or] at h
  simp only [destinationOfOffset, h, or_self, if_false]

theorem destinationOfOffset_published {off : Nat} (h : off ∈ [0x008, 0x00A, 0x00C, 0x00E, 0x018, 0x01C, 0x01E])
    (reading : Option Purpose) : destinationOfOffset reading off = .published off := by
  simp only [List.mem_cons, List.not_mem_nil, or_false] at h
  obtain rfl | rfl | rfl | rfl | rfl | rfl | rfl := h <;> rfl

/-- The configuration cells, watched by a START latch (R99); the global level cell has its own owner. -/
theorem destinationOfOffset_config {off : Nat} (hlo : 0x020 ≤ off) (hhi : off ≤ 0x036) (hne : off ≠ 0x024)
    (reading : Option Purpose) :
    destinationOfOffset reading off = if reading = some .start then .watched off else .plain := by
  rw [destinationOfOffset_of_region reading (by simp; omega), if_pos ⟨hlo, hhi⟩]

/-- The scan records, watched by a latch for either command (R99). -/
theorem destinationOfOffset_table {off : Nat} (hlo : 0x100 ≤ off) (hhi : off ≤ 0x1BF) (reading : Option Purpose) :
    destinationOfOffset reading off = if reading.isSome then .watched off else .plain := by
  rw [destinationOfOffset_of_region reading (by simp; omega), if_neg (by omega), if_pos ⟨hlo, hhi⟩]

/-- The reserved words, the ring and what lies above the pattern area have no owner among the blocks. -/
theorem destinationOfOffset_plain {off : Nat} (h : off ∈ [0x004, 0x006, 0x014, 0x016] ∨ (0x038 ≤ off ∧ off ≤ 0x0FF)
      ∨ (0x1C0 ≤ off ∧ off ≤ 0x3FF) ∨ 0xC00 ≤ off) (reading : Option Purpose) :
    destinationOfOffset reading off = .plain := by
  simp only [List.mem_cons, List.not_mem_nil, or_false] at h
  rw [destinationOfOffset_of_region reading (by simp; omega), if_neg (by omega), if_neg (by omega), if_neg (by omega)]

/-- Inside the window, whose base is even, a write that carries a lane goes by the offset of its word (R144 to R146). -/
theorem destination_of_window {s : State} {a off k : Nat} {l : Lanes} (hbase : s.pass.windowBase = k * 65536)
    (hl : l.low = true ∨ l.high = true) (hlo : s.pass.windowBase ≤ a) (hhi : a ≤ s.pass.windowBase + 8191)
    (hoff : off = (a - s.pass.windowBase) / 2 * 2) :
    destination s a l = destinationOfOffset (readingPurpose s) off := by
  have hlane : carriesLane l = true := by simpa [carriesLane] using hl
  have hwindow : inWindow s a = true := decide_eq_true ⟨hlo, by rw [Config.windowSize]; omega⟩
  have hword : wordAddr a - s.pass.windowBase = off := by rw [hoff, wordAddr]; omega
  rw [destination, hlane, hwindow, hword]
  rfl

theorem destination_outside_window {s : State} {a : Nat}
    (h : a < s.pass.windowBase ∨ s.pass.windowBase + 8191 < a) (l : Lanes) : destination s a l = .plain := by
  have hwindow : inWindow s a = false := decide_eq_false (by rw [Config.windowSize]; omega)
  rw [destination, hwindow, Bool.and_false]
  rfl

theorem destination_of_no_lane {l : Lanes} (hlow : l.low = false) (hhigh : l.high = false) (s : State) (a : Nat) :
    destination s a l = .plain := by
  simp [destination, carriesLane, hlow, hhigh]

theorem readingPurpose_isSome_iff (s : State) : (readingPurpose s).isSome = true ↔ s.latch.progress = .reading := by
  unfold readingPurpose
  split <;> simp [*]

/-- Settles O21: inside the window each clause is a line of the table by offset. -/
theorem windowOffsetDecidesOwner : Obligations.WindowOffsetDecidesOwner := by
  refine fun s a l k => ⟨fun _ hbase hl hlo hhi off hoff => ?_, fun h => destination_outside_window h l,
    fun hlow hhigh => destination_of_no_lane hlow hhigh s a⟩
  rw [destination_of_window hbase hl hlo hhi hoff]
  refine ⟨?_, ?_, fun h => destinationOfOffset_published h _, ?_, ?_, ?_, ?_, fun h₁ h₂ h₃ => ?_, fun h₁ h₂ => ?_,
    fun h₁ h₂ => (destinationOfOffset_pattern_iff _ _ _).2 ⟨rfl, h₁, h₂⟩, fun h => destinationOfOffset_plain h _⟩
  case refine_7 => simp only [destinationOfOffset_config h₁ h₂ h₃, readingPurpose_eq_some_iff]
  case refine_8 => simp only [destinationOfOffset_table h₁ h₂, readingPurpose_isSome_iff]
  all_goals
    intro h
    rw [h]
    rfl

/-! ## Presented cycles and plain writes (R145, R148) -/

theorem exec_hostCyclePresented {c : HostCycle} (h : c.addr < 1048576) (s : State) :
    exec (.hostCyclePresented c) s = .next (presentCycle c s) := if_pos h

theorem presentCycle_of_held {s : State} (h : s.pass.resetHeld = true) (c : HostCycle) :
    presentCycle c s = makeUnseen c s := if_pos h

/-- Settles O18: the address decides between the fault and the presentation, RESET and a cycle that waits the rest. -/
theorem hostCyclePresentedWaits : Obligations.HostCyclePresentedWaits := by
  refine fun s c => ⟨fun haddr hheld hwait => ?_, ?_, ?_, fun haddr hheld hwait => ?_, fun haddr => ?_⟩
  · simp [exec_hostCyclePresented haddr, presentCycle, hheld, hwait]
  · rintro a l d rfl haddr hheld
    rw [exec_hostCyclePresented (by exact haddr), presentCycle_of_held hheld]
    rfl
  · rintro a l rfl haddr hheld
    rw [exec_hostCyclePresented (by exact haddr), presentCycle_of_held hheld]
    rfl
  · obtain ⟨c', hc'⟩ := Option.isSome_iff_exists.1 hwait
    simp [exec_hostCyclePresented haddr, presentCycle, hheld, hc']
  · exact if_neg (Nat.not_lt.2 haddr)

/-- Settles O22: each row takes the granted write, and its owner stores it as written. -/
theorem plainWritesReachMemory : Obligations.PlainWritesReachMemory := by
  refine fun s a l d => ⟨fun hw => ?_, fun hw => ?_, fun hw => ?_⟩
  · have hkind : isPlainWrite a l d s = true := decide_eq_true hw.2
    simp only [exec, execHostWrite, takeRow_of_writeGranted hw hkind, takeWrite, destination_grantHost, hw.2]
    rfl
  · have hkind : isArgumentWrite a l d s = true := decide_eq_true hw.2
    simp only [exec, execArgumentWrite, takeRow_of_writeGranted hw hkind, takeWrite, destination_grantHost, hw.2]
    rfl
  · have hkind : isEnableWrite a l d s = true := decide_eq_true hw.2
    simp only [exec, execEnableCellWrite, takeRow_of_writeGranted hw hkind, takeWrite, destination_grantHost, hw.2]
    obtain ⟨_ | _, high⟩ := l <;> rfl

/-! ## The arbiter's decision (R150, R151) -/

/-- The counter rises at a host grant that a part class waits behind. -/
theorem grantHost_eq (s : State) :
    grantHost s = (s.withPass { s.pass with waiting := none, waitLine := false }).withArb
      { s.arb with
        starveCounter := if firstPart s = none then s.arb.starveCounter else s.arb.starveCounter + 1 } := by
  cases h : firstPart s <;> simp [grantHost, h]

/-- A free port, RESET not held, and no host cycle that goes first: a decision is the parts' (R151). -/
theorem decidePort_of_no_host {s : State} (hheld : s.pass.resetHeld = false) (hport : s.arb.port = .free)
    (h : ∀ c, ¬ HostGranted s c) :
    decidePort s = (firstPart s).elim s (grantPart · s) := by
  have hnone : hostGrant s = none := Option.eq_none_iff_forall_ne_some.2 fun c hc => h c ((hostGrant_eq_some_iff s c).1 hc)
  have hcan : canDecide s = true := by simp [canDecide, hheld, hport]
  simp only [decidePort, hnone, hcan, if_true]
  cases firstPart s <;> rfl

theorem not_hostGranted_of_none {s : State} (h : s.pass.waiting = none) (c : HostCycle) : ¬ HostGranted s c := by
  rintro ⟨-, -, hw, -⟩
  simp [h] at hw

/-- A part class that waits is granted when no host cycle waits, or the counter has reached its limit. -/
theorem exec_arbiterDecision_of_part {s : State} {p : PartClass} (hheld : s.pass.resetHeld = false)
    (hport : s.arb.port = .free) (hp : firstPart s = some p)
    (h : s.pass.waiting = none ∨ s.arb.starveLimit ≤ s.arb.starveCounter) :
    exec .arbiterDecision s = .next (s.withArb { s.arb with starveCounter := 0, port := partCycle p s }) := by
  have hno : ∀ c, ¬ HostGranted s c := by
    rintro c ⟨-, -, hw, hnone | hlt⟩
    · simp [hp] at hnone
    · obtain h | h := h
      · simp [h] at hw
      · omega
  rw [exec, execArbiterDecision, decidePort_of_no_host hheld hport hno, hp]
  rfl

/-- Settles O19: the host is granted, or the first part class, or nobody waits. -/
theorem arbiterDecisionFollowsTable : Obligations.ArbiterDecisionFollowsTable := by
  refine fun s hheld hport => ⟨fun a l hw hs => ?_, fun a l d hw hs => ?_, fun p hp h => ?_, fun hp hw => ?_⟩
  · rw [exec, execArbiterDecision, decidePort_of_granted ⟨hheld, hport, hw, hs⟩, grantHost_eq]
    rfl
  · rw [exec, execArbiterDecision, decidePort_of_granted ⟨hheld, hport, hw, hs⟩, grantHost_eq]
    rfl
  · exact exec_arbiterDecision_of_part hheld hport hp h
  · rw [exec, execArbiterDecision, decidePort_of_no_host hheld hport (not_hostGranted_of_none hw), hp]
    rfl

/-! ### What each part class makes (R34, R97, R137) -/

theorem fillWaits_of_head {s : State} {e : FillEntry} {es : List FillEntry} (h : s.cache.fills = e :: es)
    (cls : FillClass) : fillWaits cls s = decide (e.cls = cls) := by
  simp only [fillWaits, h]

theorem fillWaits_demand_eq_false {s : State} (h : ∀ e es, s.cache.fills = e :: es → e.cls ≠ .demand) :
    fillWaits .demand s = false := by
  cases hf : s.cache.fills with
  | nil => simp only [fillWaits, hf]
  | cons e es => rw [fillWaits_of_head hf, decide_eq_false (h e es hf)]

theorem writeWaits_eq_false_iff (s : State) : writeWaits s = false ↔ s.ws.updates = [] ∧ s.ws.staging = [] := by
  simp [writeWaits]

/-- The fill read granted is of the head entry's line, under its class. -/
theorem partCycle_of_head {s : State} {e : FillEntry} {es : List FillEntry} {line : Line}
    (hf : s.cache.fills = e :: es) (hline : s.cache.lines[e.line]? = some line) {p : PartClass}
    (hp : p = .demand ∨ p = .prefetch) : partCycle p s = .fill e.line line.index line.wordsRead false := by
  obtain rfl | rfl := hp <;> simp only [partCycle, fillCycle, hf, hline]

/-- A fill request is granted under DEMAND, or under PREFETCH when nothing else waits. -/
theorem firstPart_of_fill {s : State} {e : FillEntry} {es : List FillEntry} (hf : s.cache.fills = e :: es)
    (h : e.cls = .demand ∨ (s.ws.updates = [] ∧ s.ws.staging = [] ∧ s.latch.progress ≠ .reading)) :
    ∃ p, firstPart s = some p ∧ (p = .demand ∨ p = .prefetch) := by
  cases hcls : e.cls with
  | demand => exact ⟨.demand, by simp [firstPart, fillWaits_of_head hf, hcls], .inl rfl⟩
  | prefetch =>
    obtain ⟨hus, hst, hlatch⟩ := h.resolve_left (by simp [hcls])
    have hwrite := (writeWaits_eq_false_iff s).2 ⟨hus, hst⟩
    exact ⟨.prefetch, by simp [firstPart, fillWaits_of_head hf, hcls, hwrite, latchWaits, hlatch], .inr rfl⟩

theorem firstPart_of_write {s : State} (hfill : fillWaits .demand s = false)
    (h : ¬ (s.ws.updates = [] ∧ s.ws.staging = [])) : firstPart s = some .write := by
  have hwrite : writeWaits s = true := Bool.not_eq_false _ ▸ mt (writeWaits_eq_false_iff s).1 h
  simp [firstPart, hfill, hwrite]

theorem firstPart_of_latch {s : State} (hfill : fillWaits .demand s = false) (hus : s.ws.updates = [])
    (hst : s.ws.staging = []) (hlatch : s.latch.progress = .reading) : firstPart s = some .latch := by
  have hwrite := (writeWaits_eq_false_iff s).2 ⟨hus, hst⟩
  simp [firstPart, hfill, hwrite, latchWaits, hlatch]

theorem partCycle_of_nextWrite {s : State} {t : WriteTarget} {d : Word} (h : nextWrite s = some (t, d)) :
    partCycle .write s = .write t d false := by
  simp only [partCycle, h]

theorem statusWord_of_table {r : StatusRecord} {k : Nat} {w : Word}
    (h : (k, w) ∈ [(0, r.code), (1, r.result), (2, r.sequence), (3, r.detail)]) : statusWord r k = w := by
  simp only [List.mem_cons, Prod.mk.injEq, List.not_mem_nil, or_false] at h
  obtain ⟨rfl, rfl⟩ | ⟨rfl, rfl⟩ | ⟨rfl, rfl⟩ | ⟨rfl, rfl⟩ := h <;> rfl

theorem keyEventCode_of_table {kind : KeyEventKind} {n : Byte}
    (h : (kind, n) ∈ [(KeyEventKind.press, (1 : Byte)), (.release, 2), (.repeatKey, 3), (.jam, 4), (.jamClear, 5)]) :
    keyEventCode kind = n := by
  simp only [List.mem_cons, Prod.mk.injEq, List.not_mem_nil, or_false] at h
  obtain ⟨rfl, rfl⟩ | ⟨rfl, rfl⟩ | ⟨rfl, rfl⟩ | ⟨rfl, rfl⟩ | ⟨rfl, rfl⟩ := h <;> rfl

/-- The layout of an event record (R156). -/
theorem recordWord_of_table {e : StagedEvent} {k : Nat} {w : Word}
    (h : (k, w) ∈ [(0, joinBytes (BitVec.ofNat 8 e.event.key) (keyEventCode e.event.kind)),
      (1, joinBytes (BitVec.ofNat 8 e.event.repeatCount) e.sequence), (2, e.stamp),
      (3, joinBytes 0 (BitVec.ofNat 8 e.event.downAfter))]) : recordWord e k = w := by
  simp only [List.mem_cons, Prod.mk.injEq, List.not_mem_nil, or_false] at h
  obtain ⟨rfl, rfl⟩ | ⟨rfl, rfl⟩ | ⟨rfl, rfl⟩ | ⟨rfl, rfl⟩ := h <;> rfl

theorem nextReadOffset_of_config {l : TableLatch} (hp : l.purpose = .start) (hk : l.wordsRead.length < 12) :
    nextReadOffset l = 0x020 + 2 * l.wordsRead.length := by
  simp only [nextReadOffset, hp]
  exact if_pos hk

/-- After the configuration cells, which RELOAD does not read, come three words of each record (R97). -/
theorem nextReadOffset_of_record {l : TableLatch} {i j : Nat} (hj : j < 3)
    (h : l.wordsRead.length = (if l.purpose = .start then 12 else 0) + 3 * i + j) :
    nextReadOffset l = 0x100 + 8 * i + 2 * j := by
  have hword : recordWordOffset (3 * i + j) = 0x100 + 8 * i + 2 * j := by
    simp only [recordWordOffset, Config.tableBase]
    omega
  cases hp : l.purpose with
  | start =>
    simp only [hp, if_true] at h
    have hcells : Config.configCells = 12 := rfl
    simp only [nextReadOffset, hp]
    rw [if_neg (by omega), ← hword]
    congr 1
    omega
  | reload =>
    simp only [hp, reduceCtorEq, if_false] at h
    simp only [nextReadOffset, hp, ← hword]
    congr 1
    omega

/-- Settles O20: each clause names the first class that waits and reads off the cycle its grant makes. -/
theorem grantedPartCycleIsNextWork : Obligations.GrantedPartCycleIsNextWork := by
  intro s hheld hport hwait
  have grant : ∀ {p x}, firstPart s = some p → partCycle p s = x →
      exec .arbiterDecision s = .next (s.withArb { s.arb with starveCounter := 0, port := x }) := by
    rintro p x hp rfl
    exact exec_arbiterDecision_of_part hheld hport hp (.inl hwait)
  refine ⟨fun e es line hf hline h => ?_, fun hdemand => ?_⟩
  · obtain ⟨p, hp, hcls⟩ := firstPart_of_fill hf h
    exact grant hp (partCycle_of_head hf hline hcls)
  · have hfill := fillWaits_demand_eq_false hdemand
    refine ⟨fun c v us hus => ?_, fun c r k w us hus hw => ?_, fun e es k w n hus hst hk hn hw => ?_,
      fun k hus hst hlatch hp hk hlen => ?_, fun i j hus hst hlatch hj hlen => ?_⟩
    · refine grant (firstPart_of_write hfill (by simp [hus])) (partCycle_of_nextWrite ?_)
      simp only [nextWrite, hus]
    · refine grant (firstPart_of_write hfill (by simp [hus])) (partCycle_of_nextWrite ?_)
      simp only [nextWrite, hus, statusWord_of_table hw]
    · rw [← keyEventCode_of_table hn] at hw
      refine grant (firstPart_of_write hfill (by simp [hst])) (partCycle_of_nextWrite ?_)
      simp only [nextWrite, hus, hst, hk, recordWord_of_table hw]
    · subst hlen
      exact grant (firstPart_of_latch hfill hus hst hlatch) (congrArg _ (nextReadOffset_of_config hp hk))
    · exact grant (firstPart_of_latch hfill hus hst hlatch) (congrArg _ (nextReadOffset_of_record hj hlen))

/-! ## RESET (R148, R149) -/

/-- A part write that RESET ends stands whole or not at all, and draws the free value that says which. -/
theorem endPartCycle_eq (s : State) : ∃ (m : Memory) (n : Nat),
    (match s.arb.port with
      | .write w d _ =>
        n = s.freeCount + 1 ∧
          (m = s.mem ∨ m = putLanes s.mem (s.pass.windowBase + targetOffset w) bothLanes d)
      | _ => n = s.freeCount ∧ m = s.mem)
    ∧ endPartCycle s = (s.withFreeCount n).withMem m := by
  unfold endPartCycle
  cases s.arb.port with
  | write w d r =>
    dsimp only
    split
    · exact ⟨_, _, ⟨rfl, .inr rfl⟩, rfl⟩
    · exact ⟨_, _, ⟨rfl, .inl rfl⟩, rfl⟩
  | free | fill | latch => exact ⟨_, _, ⟨rfl, rfl⟩, rfl⟩

/-- Settles O16: the write under way ends, the waiting cycle is made, and every other field is the line reset's. -/
theorem resetAssertedResetsEveryBlock : Obligations.ResetAssertedResetsEveryBlock := by
  intro s hheld
  obtain ⟨m, n, hends, heq⟩ := endPartCycle_eq s
  refine ⟨m, n, hends, ?_⟩
  have hnot : ¬ s.pass.resetHeld = true := by simp [hheld]
  rw [exec, execResetAsserted, if_neg hnot, heq]
  have hwaiting : ((s.withFreeCount n).withMem m).pass.waiting = s.pass.waiting := rfl
  rw [makeWaiting, hwaiting]
  obtain _ | ⟨a, l⟩ | ⟨a, l, d⟩ := s.pass.waiting <;> rfl

/-- With nothing waiting each of the seven cells joins the list at its end, whatever cycle is under way (R126, R136). -/
theorem initialPublication_of_empty {s : State} (hus : s.ws.updates = []) :
    initialPublication s = (s.withCmd { s.cmd with record := ⟨0, resultCode .reset, 0, 0⟩ }).withWs
      { s.ws with updates := initialUpdates s } := by
  obtain ⟨pass, arb, ⟨us, staging, progress⟩, cmd, latch, scan, cache, switch, keys, queue, events, mem, fc, pending⟩ := s
  cases hus
  rfl

/-- The list of the initial publication from the line-reset values (R125, R126, R133). -/
theorem initialUpdates_of_lineReset {s : State} (hev : s.events = .lineReset) (hq : s.queue = .lineReset)
    (hcmd : s.cmd = .lineReset) (hst : s.scan.state = .off) (htable : s.scan.table = []) (hbase : s.scan.frameBase = 0) :
    initialUpdates s =
      [⟨.pending, .word 0⟩, ⟨.producer, .word 0⟩, ⟨.consumer, .word 0⟩, ⟨.shownBase, .word 0⟩,
        ⟨.scanState, .word 0⟩, ⟨.statusRecord, .status ⟨0, 0, 0, 0⟩ 0⟩, ⟨.command, .word 0⟩] := by
  simp only [initialUpdates, pendingWord, shownBaseWord, scanStateWord, hev, hq, hcmd, hst, htable, hbase]
  rfl

/-- Settles O17: the straps place the window, and the record placed is the one that stood there. -/
theorem resetReleasedPlacesInitialPublication : Obligations.ResetReleasedPlacesInitialPublication := by
  intro s straps hheld hus hev hq hcmd hst htable hbase
  rw [exec, execResetReleased, if_pos hheld, initialPublication_of_empty (by exact hus),
    initialUpdates_of_lineReset (by exact hev) (by exact hq) (by exact hcmd) (by exact hst) (by exact htable)
      (by exact hbase)]
  have hrecord : { s.cmd with record := ⟨0, resultCode .reset, 0, 0⟩ } = s.cmd := by rw [hcmd]; rfl
  simp only [State.withCmd, State.withPass, hrecord]
  rfl

end Sys2Proof.Machine
end


/-! PROOF of the statement of a step on a queue that holds a command (O1), beside `step_of_empty` for the empty one. -/

section

namespace Sys2Proof.Machine

/-- Settles O1: of the two ways a step can go, by the queue, a queue `c :: rest` takes the second. -/
theorem stepRunsFrontCommand : Obligations.StepRunsFrontCommand := by
  intro s c rest hq
  rw [step, hq]

end Sys2Proof.Machine
end
